-- ==== Sys2Proof/Word.lean ====
section
/-! DEFINITION. The word types of the block: 32-bit host words (R22, R60), bytes of the buffers and of the radio
side (R45, R76), 7-bit radio register addresses (R40). -/

namespace Sys2Proof

/-- A host bus word; every CSR is 32 bits wide (R22). -/
abbrev Word := BitVec 32

/-- A byte of a buffer or of a radio register (R45, R76). -/
abbrev Byte := BitVec 8

/-- A radio register address: "Register addresses are 7 bits (0x00–0x7F)" (R40). -/
abbrev RegAddr := BitVec 7

end Sys2Proof
end

