-- ==== Sys2Proof/Config.lean ====
section
/-! DEFINITION. What an instance of the block fixes (R8, R9, R40, R78) and the values the spec leaves free (R8, R73). -/

namespace Sys2Proof.Config

/-- `FOSC`, the crystal frequency of every conversion, in Hz (R8). -/
def fosc : Nat := 32000000

/-- The radio register addresses and flag masks (R40). -/
structure RadioProfile where
  aFifo : RegAddr
  aOpmode : RegAddr
  aBitrateMsb : RegAddr
  aBitrateLsb : RegAddr
  aFrfMsb : RegAddr
  aFrfMid : RegAddr
  aFrfLsb : RegAddr
  aRssiValue : RegAddr
  aRxbw : RegAddr
  aPayloadLength : RegAddr
  aSeqConfig1 : RegAddr
  aIrqFlags1 : RegAddr
  aIrqFlags2 : RegAddr
  mMode : Byte
  mModeReady : Byte
  mFifoFull : Byte
  mFifoEmpty : Byte
  mFifoLevel : Byte
  mFifoOverrun : Byte
  deriving DecidableEq, Repr

/-- The parameters of one instance (R8, R40) and the base address of its window (R78). `RSSI_FN` is a function and so
stands apart, as `rssiFn`. R78 gives host addresses no width; `base` has 32 bits (DESIGN CHOICE, log 24). -/
structure Params where
  fifoDepth : Nat
  maxPacket : Nat
  rxbufSize : Nat
  hasModeReady : Bool
  seqTxArm : Byte
  seqStop : Byte
  profile : RadioProfile
  base : Word
  deriving DecidableEq, Repr

/-- `M_MODE` is a field of three adjacent bits (R40: "the 3-bit mode field of `A_OPMODE`"). DEDUCED: adjacent (log 12). -/
def RadioProfile.modeFieldOk (p : RadioProfile) : Bool :=
  (List.range 6).any fun sh => p.mMode == (7 : Byte) <<< sh

/-- The constraints of R8, R9, R40 and R78. Outside them "a model whose arguments break a constraint is outside this
spec" (R9): `Machine.step` refuses (log 12; safe). -/
def Params.wf (p : Params) : Bool :=
  (p.fifoDepth == 64 || p.fifoDepth == 66)
    && (decide (1 ≤ p.maxPacket) && decide (p.maxPacket ≤ 254))
    && (decide (p.maxPacket ≤ p.rxbufSize) && decide (p.rxbufSize ≤ 1024))
    && p.profile.modeFieldOk
    && p.base.toNat % 0x4000 == 0

/-- The defaults of R40 (the SX1276 in FSK/OOK mode; the spec marks them as general knowledge, log 22). -/
def defaultProfile : RadioProfile where
  aFifo := 0x00
  aOpmode := 0x01
  aBitrateMsb := 0x02
  aBitrateLsb := 0x03
  aFrfMsb := 0x06
  aFrfMid := 0x07
  aFrfLsb := 0x08
  aRssiValue := 0x11
  aRxbw := 0x12
  aPayloadLength := 0x32
  aSeqConfig1 := 0x36
  aIrqFlags1 := 0x3E
  aIrqFlags2 := 0x3F
  mMode := 0x07
  mModeReady := 0x80
  mFifoFull := 0x80
  mFifoEmpty := 0x40
  mFifoLevel := 0x20
  mFifoOverrun := 0x10

/-- The instance T64 of spec/95_test_vectors.md, section 0: the one instance the spec names. DESIGN CHOICE: it is the
instance of `State.reset` (log 1; unsafe for a claim that leans on its numbers). -/
def t64 : Params where
  fifoDepth := 64
  maxPacket := 64
  rxbufSize := 64
  hasModeReady := false
  seqTxArm := 0xAA
  seqStop := 0x55
  profile := defaultProfile
  base := 0

/-- What the radio, an oracle, answers to one transaction (R73): it fails, or it succeeds; a successful read returns
the byte, and the byte is ignored for the other transactions. -/
inductive RadioAnswer where
  | fail
  | ok (b : Byte)
  deriving DecidableEq, Repr, Inhabited

/-- The answer to transaction number `n` where `State.radio.answers` has run out: a free value (R73, I13). DESIGN
CHOICE of the form (log 3; safe: nothing can be proved of it). -/
opaque freeAnswer : Nat → RadioAnswer

/-- `RSSI_FN`, "a total function from 8-bit to signed 32-bit" (R8), in two's complement (R34): a free parameter (log 2;
safe). -/
opaque rssiFn : Byte → Word

end Sys2Proof.Config
end

