-- ==== Sys2Proof/Syntax.lean ====
section
/-! DEFINITION. The instructions: the fifteen commands of R91, one constructor per row of spec/opcode_table.json. -/

namespace Sys2Proof

/-- A command (R91). Only SETMODE has an immediate operand, the 3-bit target mode (R90); every other operand is read
from a CSR (R95). -/
inductive Instr where
  | nop
  | freqEnc
  | freqDec
  | brEnc
  | brDec
  | bwEnc
  | bwDec
  | setFreq
  | setBr
  | setBw
  | setmode (m : BitVec 3)
  | getmode
  | send
  | recv
  | sendrecv
  deriving DecidableEq, Repr

/-- The class of a command (R91): a device command makes radio transactions, a pure command makes none. -/
inductive CommandClass where
  | pureCommand
  | deviceCommand
  deriving DecidableEq, Repr

/-- The "Class" column of R91. -/
def Instr.commandClass : Instr → CommandClass
  | .nop | .freqEnc | .freqDec | .brEnc | .brDec | .bwEnc | .bwDec => .pureCommand
  | .setFreq | .setBr | .setBw | .setmode _ | .getmode | .send | .recv | .sendrecv => .deviceCommand

end Sys2Proof
end

