-- ==== Sys2Proof/WellFormed.lean ====
section
/-! DEFINITION. Which instructions as syntax stand for a command (R92, R93, R41). -/

namespace Sys2Proof

/-- SETMODE names one of the six operating modes: "MODE is 0..5 when OP = 0x20" (R92). No other command has an operand
to check. -/
def Instr.wf : Instr → Bool
  | .setmode m => decide (m.toNat ≤ 5)
  | .nop | .freqEnc | .freqDec | .brEnc | .brDec | .bwEnc | .bwDec | .setFreq | .setBr | .setBw | .getmode | .send
  | .recv | .sendrecv => true

/-- A well-formed instruction. -/
abbrev WellFormed (i : Instr) : Prop := i.wf = true

end Sys2Proof
end

