-- ==== Sys2Proof/Decode.lean ====
section
/-! DEFINITION. The command word CMDW (R90): its fields, the decoder (R91 to R93), total on every word and rejecting by
name, the encoder (R102), and the match and mask table of R92. -/

namespace Sys2Proof

/-- Why a word selects no command (R93). -/
inductive DecodeError where
  /-- An OP that is not in the table of R91. -/
  | unknownOp (op : Byte)
  /-- "any nonzero RSV". -/
  | reservedNonzero
  /-- "any nonzero MODE in a command other than SETMODE". -/
  | modeNonzero
  /-- "SETMODE with MODE = 6 or 7, which name no operating mode". -/
  | noSuchMode (m : BitVec 3)
  deriving DecidableEq, Repr

/-- Field OP, bits 7:0 (R90). -/
def opField (w : Word) : Byte := w.extractLsb' 0 8

/-- Field MODE, bits 10:8 (R90). -/
def modeField (w : Word) : BitVec 3 := w.extractLsb' 8 3

/-- Field RSV, bits 31:11 (R90). -/
def rsvField (w : Word) : BitVec 21 := w.extractLsb' 11 21

/-- The opcode map of R91, read from OP; `m` is the word's MODE field, SETMODE's operand (R95). -/
def commandOfOp (op : Byte) (m : BitVec 3) : Option Instr :=
  match op.toNat with
  | 0x00 => some .nop
  | 0x01 => some .freqEnc
  | 0x02 => some .freqDec
  | 0x03 => some .brEnc
  | 0x04 => some .brDec
  | 0x05 => some .bwEnc
  | 0x06 => some .bwDec
  | 0x10 => some .setFreq
  | 0x11 => some .setBr
  | 0x12 => some .setBw
  | 0x20 => some (.setmode m)
  | 0x21 => some .getmode
  | 0x30 => some .send
  | 0x31 => some .recv
  | 0x32 => some .sendrecv
  | _ => none

/-- The MODE conditions of R92: a mode 0..5 in SETMODE, 0 in every other command. -/
def checkMode (i : Instr) (m : BitVec 3) : Except DecodeError Instr :=
  match i with
  | .setmode t => if t.toNat ≤ 5 then .ok (.setmode t) else .error (.noSuchMode t)
  | .nop | .freqEnc | .freqDec | .brEnc | .brDec | .bwEnc | .bwDec | .setFreq | .setBr | .setBw | .getmode | .send
  | .recv | .sendrecv => if m = 0 then .ok i else .error .modeNonzero

/-- The command a word selects (R92), or why it selects none (R93). Every command is exactly one word (R94). -/
def decode (w : Word) : Except DecodeError Instr :=
  if rsvField w ≠ 0 then .error .reservedNonzero
  else match commandOfOp (opField w) (modeField w) with
    | none => .error (.unknownOp (opField w))
    | some i => checkMode i (modeField w)

/-- The OP column of R91. -/
def Instr.opcode : Instr → Byte
  | .nop => 0x00
  | .freqEnc => 0x01
  | .freqDec => 0x02
  | .brEnc => 0x03
  | .brDec => 0x04
  | .bwEnc => 0x05
  | .bwDec => 0x06
  | .setFreq => 0x10
  | .setBr => 0x11
  | .setBw => 0x12
  | .setmode _ => 0x20
  | .getmode => 0x21
  | .send => 0x30
  | .recv => 0x31
  | .sendrecv => 0x32

/-- The MODE field a command carries: SETMODE's target, 0 otherwise (R90). -/
def Instr.modeBits : Instr → BitVec 3
  | .setmode m => m
  | .nop | .freqEnc | .freqDec | .brEnc | .brDec | .bwEnc | .bwDec | .setFreq | .setBr | .setBw | .getmode | .send
  | .recv | .sendrecv => 0

/-- The command word of an instruction: RSV zero, then MODE, then OP (R90, R102). -/
def encode (i : Instr) : Word := (0 : BitVec 21) ++ i.modeBits ++ i.opcode

/-- One line of R92's match and mask form. -/
structure OpcodeRow where
  mask : Word
  pattern : Word
  mnemonic : String
  deriving DecidableEq, Repr

/-- R92: "A command other than SETMODE matches `word & 0xFFFFFFFF == OP`", "SETMODE matches
`word & 0xFFFFF8FF == 0x00000020`" (and then `word[10:8] <= 5`). -/
def opcodeRows : List OpcodeRow :=
  [⟨0xFFFFFFFF, 0x00000000, "NOP"⟩, ⟨0xFFFFFFFF, 0x00000001, "FREQ_ENC"⟩, ⟨0xFFFFFFFF, 0x00000002, "FREQ_DEC"⟩,
   ⟨0xFFFFFFFF, 0x00000003, "BR_ENC"⟩, ⟨0xFFFFFFFF, 0x00000004, "BR_DEC"⟩, ⟨0xFFFFFFFF, 0x00000005, "BW_ENC"⟩,
   ⟨0xFFFFFFFF, 0x00000006, "BW_DEC"⟩]
  ++ [⟨0xFFFFFFFF, 0x00000010, "SET_FREQ"⟩, ⟨0xFFFFFFFF, 0x00000011, "SET_BR"⟩, ⟨0xFFFFFFFF, 0x00000012, "SET_BW"⟩,
   ⟨0xFFFFF8FF, 0x00000020, "SETMODE"⟩, ⟨0xFFFFFFFF, 0x00000021, "GETMODE"⟩, ⟨0xFFFFFFFF, 0x00000030, "SEND"⟩,
   ⟨0xFFFFFFFF, 0x00000031, "RECV"⟩, ⟨0xFFFFFFFF, 0x00000032, "SENDRECV"⟩]

/-- The mnemonic of a command as spec/opcode_table.json spells it. -/
def Instr.mnemonic : Instr → String
  | .nop => "NOP"
  | .freqEnc => "FREQ_ENC"
  | .freqDec => "FREQ_DEC"
  | .brEnc => "BR_ENC"
  | .brDec => "BR_DEC"
  | .bwEnc => "BW_ENC"
  | .bwDec => "BW_DEC"
  | .setFreq => "SET_FREQ"
  | .setBr => "SET_BR"
  | .setBw => "SET_BW"
  | .setmode _ => "SETMODE"
  | .getmode => "GETMODE"
  | .send => "SEND"
  | .recv => "RECV"
  | .sendrecv => "SENDRECV"

/-- The word of a table row given as a number: a command is one 32-bit word with no byte order (R75, R94), so a row of
at most 32 bits is that word, zero above its bits, and a longer one is no command (log 23). -/
def tableWord (nbits w : Nat) : Option Word :=
  if nbits ≤ 32 then some (BitVec.ofNat 32 (w % 2 ^ nbits)) else none

/-- The instruction the decoder reads from a row's word. -/
def decodeTableWord (nbits w : Nat) : Option Instr :=
  match tableWord nbits w with
  | none => none
  | some word => (decode word).toOption

/-- Sleep = 0 (R41). -/
def modeSleep : BitVec 3 := 0

/-- Standby = 1 (R41). -/
def modeStandby : BitVec 3 := 1

/-- FS-TX = 2 (R41). -/
def modeFsTx : BitVec 3 := 2

/-- Transmitter = 3 (R41). -/
def modeTransmitter : BitVec 3 := 3

/-- FS-RX = 4 (R41). -/
def modeFsRx : BitVec 3 := 4

/-- Receiver = 5 (R41). -/
def modeReceiver : BitVec 3 := 5

end Sys2Proof
end

