-- ==== Sys2Proof/Machine/State.lean ====
section
/-! DEFINITION. The state of the block as plain data: every CSR of 10_state.md, both buffers (R45), the hidden state of
the sequencer (R46), the instance's parameters (R8), and the environment as data: the radio's answers (R73) and the
host's pending accesses (R7). -/

namespace Sys2Proof.Machine

open Sys2Proof.Config

/-- One byte array (R45): (index, byte) pairs in one canonical form, indices strictly rising, no entry equal to the
0x00 that an unlisted index reads as ("Both arrays reset to all zero bytes"). -/
abbrev Memory := List Host.Cell

/-- ERR: "0 = none, 1 = TRANSPORT" (R25); no other value is ever produced. -/
inductive LatchedError where
  | none
  | transport
  deriving DecidableEq, Repr

/-- The transaction kinds of ERRADDR (R26). -/
inductive TxnKind where
  | read
  | write
  | burst
  | await
  deriving DecidableEq, Repr

/-- The causes of a fatal fault (R212). -/
inductive FatalCause where
  | oversize
  | encoding
  | divzero
  | illegal
  deriving DecidableEq, Repr

/-- The bits of STATUS that belong to no group (R24); BUSY, DONE, XERR, CMDLOST. -/
structure Flags where
  busy : Bool
  done : Bool
  xerr : Bool
  cmdlost : Bool
  deriving DecidableEq, Repr

/-- STATUS.FATAL, FCAUSE (none is code 0) and FINFO (R24, R27, R28). -/
structure FatalRecord where
  fatal : Bool
  cause : Option FatalCause
  info : Word
  deriving DecidableEq, Repr

/-- ERR and ERRADDR (R25, R26); KIND none is code 0, "no error since reset". -/
structure ErrRecord where
  slot : LatchedError
  kind : Option TxnKind
  addr : RegAddr
  deriving DecidableEq, Repr

/-- The CSRs a command reads and only the host writes: ARG, TXLEN, TIMEOUT, CFG, BYTETIME, PACE (R29, R31, R32, R36,
R37, R38). `idle` false is Sleep, true is Standby. -/
structure Operands where
  arg : Word
  txlen : BitVec 16
  timeout : Word
  thresh : BitVec 6
  idle : Bool
  bytetime : BitVec 16
  pace : BitVec 16
  deriving DecidableEq, Repr

/-- IE (R39). -/
structure IrqEnable where
  doneIe : Bool
  fatalIe : Bool
  deriving DecidableEq, Repr

/-- The encode group, RES and STATUS.RANGE (R100). -/
structure EncodeGroup where
  res : Word
  range : Bool
  deriving DecidableEq, Repr

/-- The receive group: RXLEN, RSSI, RSSIRAW and the STATUS bits PKT, GLITCH, RXOVF, RXTMO (R24, R33, R34, R35, R65). -/
structure ReceiveGroup where
  rxlen : Word
  rssi : Word
  rssiRaw : Byte
  pkt : Bool
  glitch : Bool
  rxovf : Bool
  rxtmo : Bool
  deriving DecidableEq, Repr

/-- The receive outcome (R46 item 6, R182). -/
inductive RxOutcome where
  | abort
  | packet
  | timeout
  | overflow
  deriving DecidableEq, Repr

/-- The step of `SetMode` (R141) that is next: clearing ERR with the read of the current mode, the write, the two
polls. -/
inductive ModeStep where
  | enter
  | write
  | poll
  | ready
  deriving DecidableEq, Repr

/-- Which `SetMode` of a command is running: the SETMODE command's own (R143), SEND's `SetMode(Standby)` (R176), its
`SettleIdle` (R181), RECV's `SetMode(Receiver)` (R183), its `SettleIdle` (R189). -/
inductive ModeCall where
  | command
  | sendStandby
  | sendSettle
  | recvReceiver
  | recvSettle
  deriving DecidableEq, Repr

/-- The position inside `SendBody` (R172) outside its two `SetMode`s: the next step is the one named. -/
inductive SendPos where
  | clear
  | arm
  | length
  | first
  | pace
  | poll
  | refill
  | wait
  | stop
  deriving DecidableEq, Repr

/-- The position inside `Receive` (R182) outside its two `SetMode`s: the next step is the one named. -/
inductive RecvPos where
  | await
  | rssi
  | poll
  | sleep
  | byte
  | clear
  deriving DecidableEq, Repr

/-- The pseudocode position inside the current command (R46 item 1): the next step to take. `write2` and `write3` are
the second and third register write of a SET command; `sent` is what follows `SendBody`; `finish` is `complete()`. -/
inductive Pos where
  | start
  | write2
  | write3
  | mode (c : ModeCall) (p : ModeStep)
  | send (p : SendPos)
  | sent
  | recv (p : RecvPos)
  | finish
  deriving DecidableEq, Repr

/-- `phase`: "idle (BUSY = 0) or the current command word and the pseudocode position inside it" (R46 item 1). -/
inductive Phase where
  | idle
  | running (w : Word) (p : Pos)
  deriving DecidableEq, Repr

/-- The hidden state of the sequencer (R46), with the spec's names in comments. `opmode` is the `A_OPMODE` byte that
`SetMode` (R141) and GETMODE (R144) read in one step and use in a later one; R46 does not list it (DEDUCED, log 8). -/
structure Sequencer where
  phase : Phase
  frame : List Byte      -- F
  frameLen : Nat         -- N
  sent : Nat             -- sent
  budget : Nat           -- budget
  count : Nat            -- n
  outcome : RxOutcome    -- outcome
  xerr : Bool            -- xerr
  raw : Byte             -- raw
  glitch : Bool          -- g
  len : Nat              -- L
  opmode : Byte          -- v
  deriving DecidableEq, Repr

/-- What the block did on its radio port (R67 to R70), with the radio's answer, and on its timer (R71), in
microseconds. -/
inductive Txn where
  | read (a : RegAddr) (ans : RadioAnswer)
  | write (a : RegAddr) (v : Byte) (ans : RadioAnswer)
  | burst (a : RegAddr) (bytes : List Byte) (ans : RadioAnswer)
  | await (us : Nat) (ans : RadioAnswer)
  | sleep (us : Nat)
  deriving DecidableEq, Repr

/-- The radio side as data: the answers the radio is going to give, oldest first (R73; when they run out,
`Config.freeAnswer` answers, log 3), how many transactions have been made, and what the block did, newest first
(log 4). -/
structure RadioPort where
  answers : List RadioAnswer
  drawn : Nat
  log : List Txn
  deriving DecidableEq, Repr

/-- One thing the outside may do to the block: a bus access of `bits` bits (R60), the pseudo-instruction WAIT (R101),
or block reset (R240). The spec gives a host address no width; here it has 32 bits (DESIGN CHOICE, log 24; safe for a claim
about the block, which sees the offset alone). -/
inductive HostOp where
  | read (bits : Nat) (addr : Word)
  | write (bits : Nat) (addr value : Word)
  | wait
  | reset
  deriving DecidableEq, Repr

/-- A pending host action and the number of block turns that pass before it (R80: each block step lies between two host
accesses; log 5). -/
structure HostEvent where
  delay : Nat
  op : HostOp
  deriving DecidableEq, Repr

/-- The host side as data: the pending actions, oldest first, and the values that reads returned, newest first (log 5). -/
structure HostPort where
  queue : List HostEvent
  reads : List Word
  deriving DecidableEq, Repr

/-- The state of the machine: the parameters, the CSRs by group, the buffers, the sequencer, and the two ports. -/
structure State where
  params : Params
  flags : Flags
  fatal : FatalRecord
  err : ErrRecord
  operands : Operands
  ie : IrqEnable
  enc : EncodeGroup
  rx : ReceiveGroup
  glitchCnt : Word
  txbuf : Memory
  rxbuf : Memory
  seq : Sequencer
  radio : RadioPort
  host : HostPort
  deriving DecidableEq, Repr

/-- Reasons the machine stops. -/
inductive Fault where
  /-- Raised by the meaning of a device command when the sequencer's position is none of that command's (or the block
  is idle). No run reaches such a state: `Safety` states the invariant. Safe (log 11). -/
  | phaseIncoherent
  deriving DecidableEq, Repr

/-- Reasons the model gives no meaning to a step. -/
inductive Refusal where
  /-- Raised by `exec` for an instruction that has no meaning yet. Safe. -/
  | notModelled (mnemonic : String)
  /-- Raised by `step` for a host access of another width than 32 bits, not aligned to 4, or outside the window: "A
  model refuses it" (R60). Safe (log 13). -/
  | hostAccess
  /-- Raised by `step` when the parameters break a constraint of R9 or R40: outside the spec (I26). Safe (log 12). -/
  | badParameters
  deriving DecidableEq, Repr

/-- The hidden state after reset: phase idle and xerr 0 (R240); the rest is undefined and never read while idle (R46,
I28). DESIGN CHOICE: zero, empty, ABORT (log 9; unsafe for a claim that leans on one of them). -/
def Sequencer.reset : Sequencer where
  phase := .idle
  frame := []
  frameLen := 0
  sent := 0
  budget := 0
  count := 0
  outcome := .abort
  xerr := false
  raw := 0
  glitch := false
  len := 0
  opmode := 0

/-- The block of the instance `p` right after block reset (R240), with nothing pending at its ports. -/
def State.resetOf (p : Params) : State where
  params := p
  flags := { busy := false, done := false, xerr := false, cmdlost := false }
  fatal := { fatal := false, cause := none, info := 0 }
  err := { slot := .none, kind := none, addr := 0 }
  operands := { arg := 0, txlen := 0, timeout := 0, thresh := 15, idle := false, bytetime := 500, pace := 0 }
  ie := { doneIe := false, fatalIe := false }
  enc := { res := 0, range := false }
  rx := { rxlen := 0, rssi := 0, rssiRaw := 0, pkt := false, glitch := false, rxovf := false, rxtmo := false }
  glitchCnt := 0
  txbuf := []
  rxbuf := []
  seq := Sequencer.reset
  radio := { answers := [], drawn := 0, log := [] }
  host := { queue := [], reads := [] }

/-- The machine right after reset (R240): instance T64 (log 1). -/
def State.reset : State := State.resetOf t64

end Sys2Proof.Machine
end

