-- ==== Sys2Proof/Machine/Operands.lean ====
section
/-! DEFINITION. Operand assembly: the operand each command takes from its CSR or word (R95), the fields of radio bytes
(R140), and the bytes a value is sent as (R75, R110, R113). Nothing is sign-extended, scaled or shifted (R95). -/

namespace Sys2Proof.Machine

open Sys2Proof.Config

/-- ARG as an unsigned 32-bit integer: `hz` of FREQ_ENC, BW_ENC, SET_FREQ, SET_BW and `bps` of BR_ENC, SET_BR (R95). -/
def State.argNat (s : State) : Nat := s.operands.arg.toNat

/-- FREQ_DEC takes `ARG[23:0]` (R95, R123). -/
def State.argFreqRaw (s : State) : Nat := (s.operands.arg.extractLsb' 0 24).toNat

/-- BR_DEC takes `ARG[15:0]` (R95, R125). -/
def State.argBitrateRaw (s : State) : Nat := (s.operands.arg.extractLsb' 0 16).toNat

/-- BW_DEC takes `ARG[7:0]` (R95, R127). -/
def State.argBandwidthByte (s : State) : Byte := s.operands.arg.extractLsb' 0 8

/-- `L = TXLEN[15:0]` (R95, R172). -/
def State.txlenNat (s : State) : Nat := s.operands.txlen.toNat

/-- TIMEOUT in microseconds (R95). -/
def State.timeoutNat (s : State) : Nat := s.operands.timeout.toNat

/-- BYTETIME in microseconds (R37, R95). -/
def State.bytetimeNat (s : State) : Nat := s.operands.bytetime.toNat

/-- PACE in microseconds (R38, R95). -/
def State.paceNat (s : State) : Nat := s.operands.pace.toNat

/-- CFG.THRESH (R36, R95). -/
def State.threshNat (s : State) : Nat := s.operands.thresh.toNat

/-- The configured idle mode: Sleep if CFG.IDLE = 0, Standby if CFG.IDLE = 1 (R36, R142). -/
def State.idleMode (s : State) : BitVec 3 := if s.operands.idle then modeStandby else modeSleep

/-- `trunc_8(v)` (R11). -/
def trunc8 (v : Nat) : Byte := BitVec.ofNat 8 v

/-- `trunc_32(v)`, which is also `zext_32` of a narrower value (R11). -/
def trunc32 (v : Nat) : Word := BitVec.ofNat 32 v

/-- `v[8*k+7 : 8*k]`, byte `k` of a register value counted from the least significant (R10, R110, R113). -/
def byteOf (v k : Nat) : Byte := trunc8 (v / 2 ^ (8 * k))

/-- `sh`, "the position of the lowest set bit of the `M_MODE` mask" (R140). -/
def modeShift (p : RadioProfile) : Nat := ((List.range 8).find? fun i => p.mMode.getLsbD i).getD 0

/-- `ModeOf(v) = (v & M_MODE) >> sh` (R140). -/
def modeOf (p : RadioProfile) (v : Byte) : Byte := (v &&& p.mMode) >>> modeShift p

/-- `WithMode(v, m) = (v & ~M_MODE & 0xFF) | ((m << sh) & M_MODE)` (R140). -/
def withMode (p : RadioProfile) (v : Byte) (m : BitVec 3) : Byte :=
  (v &&& ~~~p.mMode) ||| ((m.setWidth 8 <<< modeShift p) &&& p.mMode)

/-- `ModeOf(v) = m` (R141, R181). -/
def modeIs (p : RadioProfile) (v : Byte) (m : BitVec 3) : Bool := modeOf p v == m.setWidth 8

end Sys2Proof.Machine
end

