-- ==== Sys2Proof/Machine/Flags.lean ====
section
/-! DEFINITION. The flag computations: the STATUS word (R24), its write-1-to-clear bits, the host interrupt (R216), the
codes of ERR, ERRADDR and FCAUSE (R25, R26, R212), CFG, IE and the parameter words (R36, R39, R43, R44), and the tests
of radio flag bytes (R15, R40). -/

namespace Sys2Proof.Machine

open Sys2Proof.Config

/-- A Boolean as bit `i` of a word. -/
def flagBit (i : Nat) (b : Bool) : Word := if b then 1#32 <<< i else 0

/-- The value of ERR (R25). -/
def LatchedError.code : LatchedError → Word
  | .none => 0
  | .transport => 1

/-- KIND of ERRADDR (R26). -/
def TxnKind.code : TxnKind → BitVec 3
  | .read => 1
  | .write => 2
  | .burst => 3
  | .await => 4

/-- The code of a fatal cause (R212). -/
def FatalCause.code : FatalCause → Word
  | .oversize => 1
  | .encoding => 2
  | .divzero => 3
  | .illegal => 4

/-- `csr[ERR] != 0`. -/
def State.errLatched (s : State) : Bool := s.err.slot == .transport

/-- STATUS as a host reads it (R24); ERRL, bit 3, is the "live copy of (ERR != 0)". -/
def State.statusWord (s : State) : Word :=
  flagBit 0 s.flags.busy ||| flagBit 1 s.flags.done ||| flagBit 2 s.fatal.fatal ||| flagBit 3 s.errLatched
    ||| flagBit 4 s.rx.pkt ||| flagBit 5 s.rx.glitch ||| flagBit 6 s.enc.range ||| flagBit 7 s.rx.rxovf
    ||| flagBit 8 s.rx.rxtmo ||| flagBit 9 s.flags.xerr ||| flagBit 10 s.flags.cmdlost

/-- ERRADDR as a host reads it: ADDR in 6:0, KIND in 10:8 (R26). -/
def State.errAddrWord (s : State) : Word :=
  (0 : BitVec 21) ++ (match s.err.kind with | none => 0 | some k => k.code) ++ (0 : BitVec 1) ++ s.err.addr

/-- FCAUSE as a host reads it (R27, R212). -/
def State.fcauseWord (s : State) : Word :=
  match s.fatal.cause with
  | none => 0
  | some c => c.code

/-- CFG as a host reads it: THRESH in 5:0, IDLE in bit 8 (R36). -/
def State.cfgWord (s : State) : Word := s.operands.thresh.setWidth 32 ||| flagBit 8 s.operands.idle

/-- IE as a host reads it (R39). -/
def State.ieWord (s : State) : Word := flagBit 0 s.ie.doneIe ||| flagBit 1 s.ie.fatalIe

/-- PARAM0: FIFO_DEPTH in 7:0, MAX_PACKET in 15:8, HAS_MODE_READY in bit 16 (R43). -/
def param0Word (p : Params) : Word :=
  (trunc8 p.fifoDepth).setWidth 32 ||| ((trunc8 p.maxPacket).setWidth 32 <<< 8) ||| flagBit 16 p.hasModeReady

/-- PARAM1: RXBUF_SIZE in 10:0 (R44). -/
def param1Word (p : Params) : Word := (BitVec.ofNat 11 p.rxbufSize).setWidth 32

/-- A host write to STATUS "clears DONE if bit 1 of the written value is 1. It clears CMDLOST if bit 10 is 1. It changes
nothing else." (R24) -/
def State.writeStatus (v : Word) (s : State) : State :=
  { s with flags := { s.flags with
      done := s.flags.done && !v.getLsbD 1
      cmdlost := s.flags.cmdlost && !v.getLsbD 10 } }

/-- The host interrupt output, a level: `IRQ = (DONE & DONE_IE) | (FATAL & FATAL_IE)` (R216). -/
def irq (s : State) : Bool := (s.flags.done && s.ie.doneIe) || (s.fatal.fatal && s.ie.fatalIe)

/-- `(f & mask) != 0`, a flag of a radio status byte (R15, R40). -/
def flagSet (f mask : Byte) : Bool := f &&& mask != 0

end Sys2Proof.Machine
end

