-- ==== Sys2Proof/Machine/Ops.lean ====
section
/-! DEFINITION. The named operations every meaning is written from: the byte arrays (R62), the transport contract (R66
to R71) with its latch (R211), taking a fatal fault (R213), issue (R96) and completion (R99) of a command, `SetMode`
(R141), and block reset (R240). The block has no return from a fault (R219): block reset is the only way out. -/

namespace Sys2Proof.Machine

open Sys2Proof.Config

/-! ### Byte arrays -/

/-- The byte at index `i`; an unlisted index reads 0x00 (R45; an index outside the array, log 20). -/
def memRead : Memory → Nat → Byte
  | [], _ => 0
  | (a, b) :: rest, i => if a = i then b else memRead rest i

/-- Removes index `i`. -/
def memErase : Memory → Nat → Memory
  | [], _ => []
  | (a, b) :: rest, i => if a = i then rest else (a, b) :: memErase rest i

/-- Puts the byte `v` at index `i`, in order. -/
def memInsert : Memory → Nat → Byte → Memory
  | [], i, v => [(i, v)]
  | (a, b) :: rest, i, v =>
    if i < a then (i, v) :: (a, b) :: rest
    else if i = a then (i, v) :: rest
    else (a, b) :: memInsert rest i v

/-- Sets byte `i` to `v`, in canonical form: writing 0x00 removes the entry. -/
def memWrite (m : Memory) (i : Nat) (v : Byte) : Memory := if v = 0 then memErase m i else memInsert m i v

/-- The canonical form: indices strictly rising, no entry 0x00. -/
def Memory.wf : Memory → Bool
  | [] => true
  | [(_, b)] => b != 0
  | (a, b) :: (a', b') :: rest => b != 0 && decide (a < a') && Memory.wf ((a', b') :: rest)

/-- Every listed index is below `n`. -/
def Memory.below (n : Nat) (m : Memory) : Bool := m.all fun c => decide (c.1 < n)

/-- Bytes `i .. i+k-1` of an array. -/
def memSlice (m : Memory) (i k : Nat) : List Byte := (List.range k).map fun j => memRead m (i + j)

/-! ### Positions -/

/-- Position `p` of the same command; idle stays idle. -/
def Phase.move (p : Pos) : Phase → Phase
  | .idle => .idle
  | .running w _ => .running w p

/-- Moves the running command to position `p` (R46 item 1); an idle block stays idle. -/
def State.goto (p : Pos) (s : State) : State := { s with seq := { s.seq with phase := s.seq.phase.move p } }

/-- The position of the running command, if one runs (R46 item 1). -/
def State.pos (s : State) : Option Pos :=
  match s.seq.phase with
  | .idle => none
  | .running _ p => some p

/-! ### The transport contract -/

/-- The radio's answer to the next transaction, an oracle draw (R73): the oldest pending answer, or a free value (log 3). -/
def State.nextAnswer (s : State) : RadioAnswer := s.radio.answers.headD (freeAnswer s.radio.drawn)

/-- One transaction was made: its answer is used up and it is recorded (log 3, log 4). -/
def State.transact (t : Txn) (s : State) : State :=
  { s with radio := { answers := s.radio.answers.tail, drawn := s.radio.drawn + 1, log := t :: s.radio.log } }

/-- `latch Transport(addr, kind)` (R211). -/
def State.latchTransport (a : RegAddr) (k : TxnKind) (s : State) : State :=
  { s with err := { slot := .transport, kind := some k, addr := a }, seq := { s.seq with xerr := true } }

/-- Latches when the radio answered fail (R67 to R70). -/
def State.latchIfFailed (a : RegAddr) (k : TxnKind) (ans : RadioAnswer) (s : State) : State :=
  match ans with
  | .fail => s.latchTransport a k
  | .ok _ => s

/-- The byte a read returns: 0x00 when it failed (R67). -/
def answerByte : RadioAnswer → Byte
  | .fail => 0
  | .ok b => b

/-- The byte `RRead(a)` returns in `s` (R67); the no-op read returns 0x00. -/
def rreadByte (s : State) : Byte := if s.errLatched then 0 else answerByte s.nextAnswer

/-- What `RRead(a)` does to the state (R67): nothing while ERR != 0. -/
def rread (a : RegAddr) (s : State) : State :=
  if s.errLatched then s
  else (s.transact (.read a s.nextAnswer)).latchIfFailed a .read s.nextAnswer

/-- `RWrite(a, v)` (R68). -/
def rwrite (a : RegAddr) (v : Byte) (s : State) : State :=
  if s.errLatched then s
  else (s.transact (.write a v s.nextAnswer)).latchIfFailed a .write s.nextAnswer

/-- `RBurstWrite(A_FIFO, bytes)` (R69): "The block issues it only with `a = A_FIFO`". -/
def rburst (bytes : List Byte) (s : State) : State :=
  if s.errLatched then s
  else (s.transact (.burst s.params.profile.aFifo bytes s.nextAnswer)).latchIfFailed s.params.profile.aFifo .burst
    s.nextAnswer

/-- `RAwait(t)` (R70); how the wait ended is not recorded (log 16). -/
def rawait (us : Nat) (s : State) : State :=
  if s.errLatched then s
  else (s.transact (.await us s.nextAnswer)).latchIfFailed 0 .await s.nextAnswer

/-- `Sleep(t)` (R71): one step, "made whatever ERR holds", with no change of block state; the record shows it (log 4). -/
def sleep (us : Nat) (s : State) : State := { s with radio := { s.radio with log := .sleep us :: s.radio.log } }

/-- The bytes of a transaction on the wire (R72): an address byte whose bit 7 is 1 for a write, then the data; a read
sends the address and clocks one byte in. -/
def wireBytes : Txn → List Byte
  | .read a _ => [a.setWidth 8]
  | .write a v _ => [0x80 ||| a.setWidth 8, v]
  | .burst a bytes _ => (0x80 ||| a.setWidth 8) :: bytes
  | .await _ _ => []
  | .sleep _ => []

/-! ### Issue, fatal fault, completion -/

/-- Acceptance of a command word (R96): BUSY set, DONE cleared, xerr cleared, phase at the start of decode. The other hidden
state, undefined until now (R46), keeps its old value (DESIGN CHOICE, log 25; unsafe for a claim that leans on it). -/
def State.accept (w : Word) (s : State) : State :=
  { s with
    flags := { s.flags with busy := true, done := false }
    seq := { s.seq with xerr := false, phase := .running w .start } }

/-- A dropped CMD write: "nothing else changes" (R96). -/
def State.dropCommand (s : State) : State := { s with flags := { s.flags with cmdlost := true } }

/-- A host write of `w` to CMD (R96). -/
def State.issue (w : Word) (s : State) : State :=
  if s.fatal.fatal then s.dropCommand
  else if s.flags.busy then s.dropCommand
  else s.accept w

/-- `raise Fatal(cause, info)` (R213): the one exception entry of the block; no state is saved and there is no vector
(R218). DONE stays as acceptance left it. Hidden state other than phase, undefined from here on (R46), keeps its value
(DESIGN CHOICE, log 25; unsafe for a claim that leans on it). -/
def State.raiseFatal (c : FatalCause) (info : Word) (s : State) : State :=
  { s with
    fatal := { fatal := true, cause := some c, info := info }
    flags := { s.flags with busy := false }
    seq := { s.seq with phase := .idle } }

/-- `complete()` of a pure command (R99), after its results are committed. Hidden state other than phase, undefined from here
on (R46), keeps its value (DESIGN CHOICE, log 25; unsafe for a claim that leans on it). -/
def State.completePure (s : State) : State :=
  { s with flags := { s.flags with busy := false, done := true }, seq := { s.seq with phase := .idle } }

/-- `complete()` of a device command (R99): XERR is written too. Hidden state as in `completePure` (log 25). -/
def State.completeDevice (s : State) : State :=
  { s with
    flags := { s.flags with busy := false, done := true, xerr := s.seq.xerr }
    seq := { s.seq with phase := .idle } }

/-- The encode group, written at completion (R100). -/
def State.commitEncode (res : Word) (range : Bool) (s : State) : State :=
  { s with enc := { res := res, range := range } }

/-- The receive group, written at completion (R190). -/
def State.commitReceive (s : State) : State :=
  { s with rx :=
    { rxlen := if s.seq.outcome = .packet then trunc32 s.seq.count else 0
      rssi := rssiFn s.seq.raw
      rssiRaw := s.seq.raw
      pkt := s.seq.outcome == .packet
      glitch := s.seq.glitch
      rxovf := s.seq.outcome == .overflow
      rxtmo := s.seq.outcome == .timeout } }

/-- `RxNoOp()` (R191): the receive group of a gated or skipped receive. -/
def State.rxNoOp (s : State) : State :=
  { s with rx :=
    { rxlen := 0, rssi := 0, rssiRaw := 0, pkt := false, glitch := false, rxovf := false, rxtmo := false } }

/-- The latch gate of R98: with ERR != 0 the command does only what its rule lists for the gated case, and completes;
otherwise its body begins. -/
def State.gate (gated body : State → State) (s : State) : State :=
  if s.errLatched then (gated s).completeDevice else body s

/-! ### The mode transition -/

/-- "clears the latched error"; ERRADDR is kept (R141 step 1). -/
def State.clearErr (s : State) : State := { s with err := { s.err with slot := .none } }

/-- Keeps the `A_OPMODE` byte just read for a later step (R141, R144; log 8). -/
def State.keepOpmode (v : Byte) (s : State) : State := { s with seq := { s.seq with opmode := v } }

/-- Where a `SetMode` returns to (R143, R172, R182). -/
def modeReturn : ModeCall → Pos
  | .command => .finish
  | .sendStandby => .send .clear
  | .sendSettle => .sent
  | .recvReceiver => .recv .await
  | .recvSettle => .recv .clear

/-- First step of `SetMode(m)` (R141): ERR is cleared and the current mode read in one step (log 7); the transition ends
there if the read failed, or "if the current mode already equals the target, returns immediately with no register write". -/
def modeEnter (m : BitVec 3) (c : ModeCall) (s : State) : State :=
  let v := rreadByte s.clearErr
  let s1 := (rread s.params.profile.aOpmode s.clearErr).keepOpmode v
  if s1.errLatched then s1.goto (modeReturn c)
  else if modeIs s.params.profile v m then s1.goto (modeReturn c)
  else s1.goto (.mode c .write)

/-- The write of `SetMode(m)` (R141 step 3): "write the mode bits, keep the rest". -/
def modeWrite (m : BitVec 3) (c : ModeCall) (s : State) : State :=
  (rwrite s.params.profile.aOpmode (withMode s.params.profile s.seq.opmode m) s).goto (.mode c .poll)

/-- One mode readback of `SetMode(m)`'s poll (R141): it ends on a latched error, or on the target mode where the radio
has no mode-ready bit. -/
def modePoll (m : BitVec 3) (c : ModeCall) (s : State) : State :=
  let r := rreadByte s
  let s1 := rread s.params.profile.aOpmode s
  if s1.errLatched then s1.goto (modeReturn c)
  else if modeIs s.params.profile r m then
    if s.params.hasModeReady then s1.goto (.mode c .ready) else s1.goto (modeReturn c)
  else s1.goto (.mode c .poll)

/-- The mode-ready read of `SetMode`'s poll (R141). -/
def modeReady (c : ModeCall) (s : State) : State :=
  let f := rreadByte s
  let s1 := rread s.params.profile.aIrqFlags1 s
  if s1.errLatched then s1.goto (modeReturn c)
  else if flagSet f s.params.profile.mModeReady then s1.goto (modeReturn c)
  else s1.goto (.mode c .poll)

/-- One step of the `SetMode(m)` called as `c` (R141). -/
def modeStep (m : BitVec 3) (c : ModeCall) (p : ModeStep) (s : State) : State :=
  match p with
  | .enter => modeEnter m c s
  | .write => modeWrite m c s
  | .poll => modePoll m c s
  | .ready => modeReady c s

/-! ### Block reset and the next turn -/

/-- Block reset (R240, R241): every piece of block state at its reset value, the parameters kept; a running command is
abandoned. It makes no radio transaction (R241) and touches neither the radio's pending answers nor the host's (R243;
log 19). -/
def State.blockReset (s : State) : State :=
  { State.resetOf s.params with radio := s.radio, host := s.host }

/-- The command word the sequencer is running, if any: the block fetches no instructions (R21), the word stands in
phase (R46). -/
def State.fetch (s : State) : Option Word :=
  match s.seq.phase with
  | .idle => none
  | .running w _ => some w

/-- The queue after one block turn: the head waits for one turn less (log 5). -/
def tickQueue : List HostEvent → List HostEvent
  | [] => []
  | e :: rest => { e with delay := e.delay - 1 } :: rest

/-- One block turn is charged to the host's pending actions. -/
def State.tick (s : State) : State := { s with host := { s.host with queue := tickQueue s.host.queue } }

/-- The host action that moves now, if it is the host's turn: the head of the queue with no turns left to wait. -/
def State.hostTurn (s : State) : Option HostOp :=
  match s.host.queue with
  | [] => none
  | e :: _ => if e.delay = 0 then some e.op else none

/-- The queue without its head. -/
def State.popHost (s : State) : State := { s with host := { s.host with queue := s.host.queue.tail } }

end Sys2Proof.Machine
end

