-- ==== Sys2Proof/Machine/Numeric.lean ====
section
/-! DEFINITION. The conversion functions of the numeric encoder (40_numeric_encoder.md, section 1), on mathematical
integers with no intermediate width (R11). -/

namespace Sys2Proof.Machine

open Sys2Proof.Config

/-- `round(p / q) = (2*p + q) div (2*q)`: nearest integer, halves rounded up (R11). -/
def roundDiv (p q : Nat) : Nat := (2 * p + q) / (2 * q)

/-- The untruncated frequency word `round(hz * 2^19 / FOSC)` (R111). -/
def freqWord (hz : Nat) : Nat := roundDiv (hz * 2 ^ 19) fosc

/-- `FreqEnc(hz).raw = trunc_24(q)` (R111). -/
def freqEncRaw (hz : Nat) : Nat := freqWord hz % 2 ^ 24

/-- `FreqEnc(hz).range = (q > 0xFFFFFF)` (R111). -/
def freqEncRange (hz : Nat) : Bool := decide (freqWord hz > 0xFFFFFF)

/-- `FreqDec(raw) = (raw * FOSC) div 2^19` (R112). -/
def freqDec (raw : Nat) : Nat := raw * fosc / 2 ^ 19

/-- The untruncated divider `(FOSC + (bps div 2)) div bps`, "nearest-integer division" (R114); `bps` = 0 is caught
before it is used. -/
def bitrateDivider (bps : Nat) : Nat := (fosc + bps / 2) / bps

/-- `BrEnc(bps).raw = trunc_16(q)` (R114). -/
def brEncRaw (bps : Nat) : Nat := bitrateDivider bps % 2 ^ 16

/-- `BrEnc(bps).range = (q > 0xFFFF)` (R114). -/
def brEncRange (bps : Nat) : Bool := decide (bitrateDivider bps > 0xFFFF)

/-- `BrDec(raw) = (FOSC + (raw div 2)) div raw` for `raw` other than 0 (R115): "the same nearest-integer formula". -/
def brDec (raw : Nat) : Nat := bitrateDivider raw

/-- A channel bandwidth setting: mantissa 16, 20 or 24, and exponent (R116). -/
structure Bandwidth where
  mantissa : Nat
  exponent : Nat
  deriving DecidableEq, Repr

/-- `BW(m, e) = FOSC div (m * 2^(e + 2))` (R116). -/
def bwHz (b : Bandwidth) : Nat := fosc / (b.mantissa * 2 ^ (b.exponent + 2))

/-- The achievable set `A` (R116) in the order R118 visits it: "`e` ascending from 1, and within each `e`, `m` ascending
16, 20, 24", which is descending bandwidth. -/
def achievable : List Bandwidth :=
  ((List.range 7).map fun k => [⟨16, k + 1⟩, ⟨20, k + 1⟩, ⟨24, k + 1⟩]).flatten

/-- The loop of R118 over the settings left to visit; `above` is the best at-or-above so far. -/
def bwSearch (hz : Nat) (above : Option Bandwidth) : List Bandwidth → Bandwidth
  | [] => above.getD ⟨24, 7⟩
  | b :: rest =>
    if bwHz b ≥ hz then bwSearch hz (some b) rest
    else match above with
      | none => b
      | some a => if hz - bwHz b < bwHz a - hz then b else a

/-- `BwSelect(hz)` (R117), by the search of R118: "A model may use it in place of rule R117". -/
def bwSelect (hz : Nat) : Bandwidth := bwSearch hz none achievable

/-- `code(m)`: code(16) = 0, code(20) = 1 and code(24) = 2 (R120). -/
def mantissaCode (m : Nat) : Nat := (m - 16) / 4

/-- `BwEncByte(m, e) = (code(m) << 3) | e` (R120). -/
def bwEncByte (b : Bandwidth) : Byte := trunc8 (mantissaCode b.mantissa * 8 + b.exponent)

/-- MANT, bits 4:3 of the bandwidth byte (R120). -/
def mantField (b : Byte) : BitVec 2 := b.extractLsb' 3 2

/-- EXP, bits 2:0 of the bandwidth byte (R120). -/
def expField (b : Byte) : BitVec 3 := b.extractLsb' 0 3

/-- `BwDec(b)` (R121): none is the reserved mantissa, "reserved value (binary 11)"; bits 7:5 are ignored and exponent 0
is decoded by the formula. -/
def bwDec (b : Byte) : Option Nat :=
  if mantField b = 3 then none
  else some (bwHz ⟨16 + 4 * (mantField b).toNat, (expField b).toNat⟩)

end Sys2Proof.Machine
end

