-- ==== Sys2Proof/Machine/Encoder.lean ====
section
/-! DEFINITION. The meanings of NOP (R103) and of the numeric encoder's commands (R122 to R127): pure commands. Each
decodes, checks, computes and completes in one step: "Purely internal computation between two transactions ... is not
observable between its parts" (R13), and `complete()` is one atomic step (R99). -/

namespace Sys2Proof.Machine

/-- A pure command's results and its completion (R99, R100). -/
def encodeResult (res : Nat) (range : Bool) (s : State) : State :=
  (s.commitEncode (trunc32 res) range).completePure

/-- NOP (R103): `complete()`. -/
def execNop (s : State) : Host.Outcome State Fault Refusal := .next s.completePure

/-- FREQ_ENC (R122). -/
def execFreqEnc (s : State) : Host.Outcome State Fault Refusal :=
  .next (encodeResult (freqEncRaw s.argNat) (freqEncRange s.argNat) s)

/-- FREQ_DEC (R123). -/
def execFreqDec (s : State) : Host.Outcome State Fault Refusal :=
  .next (encodeResult (freqDec s.argFreqRaw) false s)

/-- BR_ENC (R124): `Fatal(DIVZERO, 0x03)` when `bps` = 0. -/
def execBrEnc (s : State) : Host.Outcome State Fault Refusal :=
  .next (if s.argNat = 0 then s.raiseFatal .divzero 0x03
    else encodeResult (brEncRaw s.argNat) (brEncRange s.argNat) s)

/-- BR_DEC (R125): `Fatal(DIVZERO, 0x04)` when `raw` = 0. -/
def execBrDec (s : State) : Host.Outcome State Fault Refusal :=
  .next (if s.argBitrateRaw = 0 then s.raiseFatal .divzero 0x04
    else encodeResult (brDec s.argBitrateRaw) false s)

/-- BW_ENC (R126). -/
def execBwEnc (s : State) : Host.Outcome State Fault Refusal :=
  .next (encodeResult (bwEncByte (bwSelect s.argNat)).toNat false s)

/-- BW_DEC (R127): `Fatal(ENCODING, b)` when the mantissa field is 3. -/
def execBwDec (s : State) : Host.Outcome State Fault Refusal :=
  .next (match bwDec s.argBandwidthByte with
    | none => s.raiseFatal .encoding (s.argBandwidthByte.setWidth 32)
    | some hz => encodeResult hz false s)

end Sys2Proof.Machine
end

