-- ==== Sys2Proof/Machine/Framer.lean ====
section
/-! DEFINITION. The packet framer (42_packet_framing.md): SEND, RECV, SENDRECV. A meaning makes the running command's
next atomic step (R13; log 6), from the position in phase. -/

namespace Sys2Proof.Machine

open Sys2Proof.Config

/-! ### SendBody (R172) -/

/-- `L` is read and the frame built: `F = TXBUF[0..L) ++ {0x00}`, `N = L + 1` (R175). -/
def State.loadFrame (s : State) : State :=
  { s with seq := { s.seq with
      len := s.txlenNat
      frame := memSlice s.txbuf 0 s.txlenNat ++ [0]
      frameLen := s.txlenNat + 1 } }

/-- `sent <- n` (R177, R179). -/
def State.setSent (n : Nat) (s : State) : State := { s with seq := { s.seq with sent := n } }

/-- The first step of `SendBody`: the frame, and the first step of `SetMode(Standby)` (R175, R176 step 1). -/
def sendBodyStart (s : State) : State := modeEnter modeStandby .sendStandby s.loadFrame

/-- Where a refill wait iteration begins: the optional `Sleep(PACE)`, or the poll (R178). -/
def refillPos (s : State) : Pos := if s.paceNat > 0 then .send .pace else .send .poll

/-- The test of the streaming loop, "while `sent < N` and ERR = 0" (R178). -/
def streamPos (s : State) : Pos :=
  if s.seq.sent < s.seq.frameLen ∧ s.errLatched = false then refillPos s else .send .wait

/-- A burst of the next `k` frame bytes, which then count as sent even if the transaction failed (R177, R179). -/
def sendBurst (k : Nat) (s : State) : State :=
  (rburst ((s.seq.frame.drop s.seq.sent).take k) s).setSent (s.seq.sent + k)

/-- First burst: `k = min(N, FIFO_DEPTH)`, from the start of the frame (R177). -/
def sendFirst (s : State) : State :=
  let s1 := sendBurst (min s.seq.frameLen s.params.fifoDepth) (s.setSent 0)
  s1.goto (streamPos s1)

/-- A refill burst: `k = min(N - sent, FIFO_DEPTH - CFG.THRESH)` (R179). -/
def sendRefill (s : State) : State :=
  let s1 := sendBurst (min (s.seq.frameLen - s.seq.sent) (s.params.fifoDepth - s.threshNat)) s
  s1.goto (streamPos s1)

/-- A refill poll: "the wait ends when FIFO_FULL = 0 and FIFO_LEVEL = 0, or when ERR != 0" (R178). -/
def sendPoll (s : State) : State :=
  let f := rreadByte s
  let s1 := rread s.params.profile.aIrqFlags2 s
  if s1.errLatched then s1.goto (.send .wait)
  else if flagSet f s.params.profile.mFifoFull = false ∧ flagSet f s.params.profile.mFifoLevel = false then
    s1.goto (.send .refill)
  else s1.goto (refillPos s1)

/-- A completion poll: until the first Standby readback or ERR != 0 (R181 step 1). -/
def sendWait (s : State) : State :=
  let v := rreadByte s
  let s1 := rread s.params.profile.aOpmode s
  if s1.errLatched then s1.goto (.send .stop)
  else if modeIs s.params.profile v modeStandby then s1.goto (.send .stop)
  else s1.goto (.send .wait)

/-- One step of `SendBody` outside its `SetMode`s (R172, R176, R181). -/
def sendStep (p : SendPos) (s : State) : State :=
  match p with
  | .clear => (rwrite s.params.profile.aIrqFlags2 s.params.profile.mFifoOverrun s).goto (.send .arm)
  | .arm => (rwrite s.params.profile.aSeqConfig1 s.params.seqTxArm s).goto (.send .length)
  | .length => (rwrite s.params.profile.aPayloadLength (trunc8 s.seq.frameLen) s).goto (.send .first)
  | .first => sendFirst s
  | .pace => (sleep s.paceNat s).goto (.send .poll)
  | .poll => sendPoll s
  | .refill => sendRefill s
  | .wait => sendWait s
  | .stop => (rwrite s.params.profile.aSeqConfig1 s.params.seqStop s).goto (.mode .sendSettle .enter)

/-! ### Receive (R182) -/

/-- `n <- n` of the pseudocode. -/
def State.setCount (n : Nat) (s : State) : State := { s with seq := { s.seq with count := n } }

/-- `outcome <- o`. -/
def State.setOutcome (o : RxOutcome) (s : State) : State := { s with seq := { s.seq with outcome := o } }

/-- `budget <- b`. -/
def State.setBudget (b : Nat) (s : State) : State := { s with seq := { s.seq with budget := b } }

/-- `MemWrite(RXBUF, i, 1, v)` (R62). -/
def State.writeRx (i : Nat) (v : Byte) (s : State) : State := { s with rxbuf := memWrite s.rxbuf i v }

/-- `raw <- raw; budget <- t; n <- 0; g <- 0; outcome <- ABORT` (R184, R185). -/
def State.startReceive (raw : Byte) (s : State) : State :=
  { s with seq := { s.seq with raw := raw, budget := s.timeoutNat, count := 0, glitch := false, outcome := .abort } }

/-- A glitch byte is 0x80 or 0xC0 (R14, R188). -/
def isGlitch (b : Byte) : Bool := b == 0x80 || b == 0xC0

/-- Drops the last byte: `n <- n - 1; g <- 1`, and GLITCHCNT counts it modulo 2^32 (R42, R188). -/
def State.dropGlitch (s : State) : State :=
  { s with glitchCnt := s.glitchCnt + 1, seq := { s.seq with count := s.seq.count - 1, glitch := true } }

/-- The sentinel was read (R188): the packet is complete; a glitch byte just before it is dropped. -/
def State.sentinel (s : State) : State :=
  (if s.seq.count > 0 ∧ isGlitch (memRead s.rxbuf (s.seq.count - 1)) = true then s.dropGlitch else s).setOutcome .packet

/-- The first step of `Receive`: `RWrite(A_PAYLOADLENGTH, 0)` (R183 step 1). -/
def receiveStart (s : State) : State :=
  (rwrite s.params.profile.aPayloadLength 0 s).goto (.mode .recvReceiver .enter)

/-- The gate of RECV, and of SENDRECV's receive part: `RxNoOp` and completion with ERR != 0, else `Receive` (R182, R191,
R192). -/
def receiveGate (s : State) : State := s.gate State.rxNoOp receiveStart

/-- The RSSI sample, "unconditionally (even on timeout)" (R184), and the start of the byte loop (R185). -/
def recvRssi (s : State) : State :=
  ((rread s.params.profile.aRssiValue s).startReceive (rreadByte s)).goto (.recv .poll)

/-- One poll of the byte loop: empty with budget left sleeps, empty without ends with TIMEOUT (R186), else a byte is
read next (R187); a latched error ends the loop, the outcome staying ABORT (R182). -/
def recvPoll (s : State) : State :=
  let f := rreadByte s
  let s1 := rread s.params.profile.aIrqFlags2 s
  if s1.errLatched then s1.goto (.mode .recvSettle .enter)
  else if flagSet f s.params.profile.mFifoEmpty then
    if s1.seq.budget > 0 then s1.goto (.recv .sleep)
    else (s1.setOutcome .timeout).goto (.mode .recvSettle .enter)
  else s1.goto (.recv .byte)

/-- "sleep one byte-duration, decrement the budget, and retry" (R186): `budget <- satsub(budget, BYTETIME)`. -/
def recvSleep (s : State) : State :=
  ((sleep s.bytetimeNat s).setBudget (s.seq.budget - s.bytetimeNat)).goto (.recv .poll)

/-- One byte of the FIFO: the sentinel (R188), a byte for RXBUF, or one too many (R187). -/
def recvByte (s : State) : State :=
  let c := rreadByte s
  let s1 := rread s.params.profile.aFifo s
  if s1.errLatched then s1.goto (.mode .recvSettle .enter)
  else if c = 0 then s1.sentinel.goto (.mode .recvSettle .enter)
  else if s1.seq.count = s1.params.rxbufSize then (s1.setOutcome .overflow).goto (.mode .recvSettle .enter)
  else ((s1.writeRx s1.seq.count c).setCount (s1.seq.count + 1)).goto (.recv .poll)

/-- One step of `Receive` outside its `SetMode`s (R182, R183, R189). The last write, after `SettleIdle`, latches when it
fails, as R182's pseudocode with R68 has it, so ERR is 1 at completion; R253 (1) says "only if the final transition itself
latched". DEDUCED: the pseudocode is followed (log 26; unsafe). -/
def recvStep (p : RecvPos) (s : State) : State :=
  match p with
  | .await => (rawait s.timeoutNat s).goto (.recv .rssi)
  | .rssi => recvRssi s
  | .poll => recvPoll s
  | .sleep => recvSleep s
  | .byte => recvByte s
  | .clear => (rwrite s.params.profile.aIrqFlags2 s.params.profile.mFifoOverrun s).goto .finish

/-! ### The commands -/

/-- SEND and SENDRECV's start: the length check, "made before the latch gate" (R173), the gate, then `SendBody`. -/
def sendStart (gated : State → State) (s : State) : State :=
  if s.txlenNat > s.params.maxPacket then s.raiseFatal .oversize (trunc32 s.txlenNat)
  else s.gate gated sendBodyStart

/-- SEND (R172 to R181). -/
def execSend (s : State) : Host.Outcome State Fault Refusal :=
  match s.seq.phase with
  | .running _ .start => .next (sendStart id s)
  | .running _ (.mode .sendStandby p) => .next (modeStep modeStandby .sendStandby p s)
  | .running _ (.send p) => .next (sendStep p s)
  | .running _ (.mode .sendSettle p) => .next (modeStep s.idleMode .sendSettle p s)
  | .running _ .sent => .next s.completeDevice
  | _ => .fault .phaseIncoherent

/-- RECV (R182 to R191). -/
def execRecv (s : State) : Host.Outcome State Fault Refusal :=
  match s.seq.phase with
  | .running _ .start => .next (receiveGate s)
  | .running _ (.mode .recvReceiver p) => .next (modeStep modeReceiver .recvReceiver p s)
  | .running _ (.recv p) => .next (recvStep p s)
  | .running _ (.mode .recvSettle p) => .next (modeStep s.idleMode .recvSettle p s)
  | .running _ .finish => .next s.commitReceive.completeDevice
  | _ => .fault .phaseIncoherent

/-- SENDRECV (R192): "Send, then Receive only if Send left no error latched". -/
def execSendrecv (s : State) : Host.Outcome State Fault Refusal :=
  match s.seq.phase with
  | .running _ .start => .next (sendStart State.rxNoOp s)
  | .running _ (.mode .sendStandby p) => .next (modeStep modeStandby .sendStandby p s)
  | .running _ (.send p) => .next (sendStep p s)
  | .running _ (.mode .sendSettle p) => .next (modeStep s.idleMode .sendSettle p s)
  | .running _ .sent => .next (receiveGate s)
  | .running _ (.mode .recvReceiver p) => .next (modeStep modeReceiver .recvReceiver p s)
  | .running _ (.recv p) => .next (recvStep p s)
  | .running _ (.mode .recvSettle p) => .next (modeStep s.idleMode .recvSettle p s)
  | .running _ .finish => .next s.commitReceive.completeDevice
  | _ => .fault .phaseIncoherent

end Sys2Proof.Machine
end

