-- ==== Sys2Proof/Machine/Register.lean ====
section
/-! DEFINITION. The meanings of the mode and register commands (41_mode_and_register_commands.md): SET_FREQ, SET_BR,
SET_BW, SETMODE, GETMODE. A meaning makes the running command's next atomic step (R13; log 6), from the position in
phase. Operands are read from their CSRs at every step (log 17). -/

namespace Sys2Proof.Machine

open Sys2Proof.Config

/-- The completion step of a SET command: RES and RANGE, then `complete()` (R99, R100). -/
def setFinish (res : Nat) (range : Bool) (s : State) : State := (s.commitEncode (trunc32 res) range).completeDevice

/-- A register write of a SET command, and the position after it. -/
def setWrite (a : RegAddr) (v : Byte) (p : Pos) (s : State) : State := (rwrite a v s).goto p

/-- SET_FREQ (R145): gated with RES and RANGE unchanged; else the writes MSB, MID, LSB in that order, then the commit. -/
def execSetFreq (s : State) : Host.Outcome State Fault Refusal :=
  match s.seq.phase with
  | .running _ .start =>
    .next (s.gate id (setWrite s.params.profile.aFrfMsb (byteOf (freqEncRaw s.argNat) 2) .write2))
  | .running _ .write2 => .next (setWrite s.params.profile.aFrfMid (byteOf (freqEncRaw s.argNat) 1) .write3 s)
  | .running _ .write3 => .next (setWrite s.params.profile.aFrfLsb (byteOf (freqEncRaw s.argNat) 0) .finish s)
  | .running _ .finish => .next (setFinish (freqEncRaw s.argNat) (freqEncRange s.argNat) s)
  | _ => .fault .phaseIncoherent

/-- SET_BR (R146): `Fatal(DIVZERO, 0x03)` "is raised before the gate"; then gated, or the writes MSB, LSB. -/
def execSetBr (s : State) : Host.Outcome State Fault Refusal :=
  match s.seq.phase with
  | .running _ .start =>
    .next (if s.argNat = 0 then s.raiseFatal .divzero 0x03
      else s.gate id (setWrite s.params.profile.aBitrateMsb (byteOf (brEncRaw s.argNat) 1) .write2))
  | .running _ .write2 => .next (setWrite s.params.profile.aBitrateLsb (byteOf (brEncRaw s.argNat) 0) .finish s)
  | .running _ .finish => .next (setFinish (brEncRaw s.argNat) (brEncRange s.argNat) s)
  | _ => .fault .phaseIncoherent

/-- SET_BW (R147): gated, or one write of the whole byte. -/
def execSetBw (s : State) : Host.Outcome State Fault Refusal :=
  match s.seq.phase with
  | .running _ .start =>
    .next (s.gate id (setWrite s.params.profile.aRxbw (bwEncByte (bwSelect s.argNat)) .finish))
  | .running _ .finish => .next (setFinish (bwEncByte (bwSelect s.argNat)).toNat false s)
  | _ => .fault .phaseIncoherent

/-- SETMODE (R143), never gated: `SetMode(m)`, then `complete()`. A mode above 5 is illegal at decode (R93) and so has
the fatal fault as its meaning too (log 10). -/
def execSetmode (m : BitVec 3) (s : State) : Host.Outcome State Fault Refusal :=
  if m.toNat ≤ 5 then
    match s.seq.phase with
    | .running _ .start => .next (modeEnter m .command s)
    | .running _ (.mode .command p) => .next (modeStep m .command p s)
    | .running _ .finish => .next s.completeDevice
    | _ => .fault .phaseIncoherent
  else .next (s.raiseFatal .illegal (encode (.setmode m)))

/-- The read of GETMODE (R144). -/
def getmodeRead (s : State) : State :=
  ((rread s.params.profile.aOpmode s).keepOpmode (rreadByte s)).goto .finish

/-- GETMODE (R144): gated with nothing written but XERR; else one read, and RES = ModeOf(v) at completion. -/
def execGetmode (s : State) : Host.Outcome State Fault Refusal :=
  match s.seq.phase with
  | .running _ .start => .next (s.gate id getmodeRead)
  | .running _ .finish => .next (setFinish (modeOf s.params.profile s.seq.opmode).toNat false s)
  | _ => .fault .phaseIncoherent

end Sys2Proof.Machine
end

