-- ==== Sys2Proof/Machine/Dispatch.lean ====
section
/-! DEFINITION. The one match from a command to its meaning: one atomic step of the running command. -/

namespace Sys2Proof.Machine

def exec (i : Instr) (s : State) : Host.Outcome State Fault Refusal :=
  match i with
  | .nop => Sys2Proof.Machine.execNop s
  | .freqEnc => Sys2Proof.Machine.execFreqEnc s
  | .freqDec => Sys2Proof.Machine.execFreqDec s
  | .brEnc => Sys2Proof.Machine.execBrEnc s
  | .brDec => Sys2Proof.Machine.execBrDec s
  | .bwEnc => Sys2Proof.Machine.execBwEnc s
  | .bwDec => Sys2Proof.Machine.execBwDec s
  | .setFreq => Sys2Proof.Machine.execSetFreq s
  | .setBr => Sys2Proof.Machine.execSetBr s
  | .setBw => Sys2Proof.Machine.execSetBw s
  | .setmode m => Sys2Proof.Machine.execSetmode m s
  | .getmode => Sys2Proof.Machine.execGetmode s
  | .send => Sys2Proof.Machine.execSend s
  | .recv => Sys2Proof.Machine.execRecv s
  | .sendrecv => Sys2Proof.Machine.execSendrecv s

end Sys2Proof.Machine
end

