-- ==== Sys2Proof/Machine/HostPort.lean ====
section
/-! DEFINITION. The host side: the address map (R22, R61), host reads (R63, R65), host writes (R63, R64, R96), and one
turn of the host (R60, R101, R240). -/

namespace Sys2Proof.Machine

open Sys2Proof.Config

/-- The named registers of R22. -/
inductive Csr where
  | cmd
  | status
  | err
  | erraddr
  | fcause
  | finfo
  | arg
  | res
  | txlen
  | timeout
  | rxlen
  | rssi
  | rssiraw
  | cfg
  | bytetime
  | pace
  | ie
  | glitchcnt
  | param0
  | param1
  deriving DecidableEq, Repr

/-- What an offset of the window names (R22, R61). -/
inductive Target where
  | csr (r : Csr)
  | txbuf (i : Nat)
  | rxbuf (i : Nat)
  | reserved
  deriving DecidableEq, Repr

/-- The offset column of R22. -/
def Csr.offset : Csr → Nat
  | .cmd => 0x000
  | .status => 0x004
  | .err => 0x008
  | .erraddr => 0x00C
  | .fcause => 0x010
  | .finfo => 0x014
  | .arg => 0x018
  | .res => 0x01C
  | .txlen => 0x020
  | .timeout => 0x024
  | .rxlen => 0x028
  | .rssi => 0x02C
  | .rssiraw => 0x030
  | .cfg => 0x034
  | .bytetime => 0x038
  | .pace => 0x03C
  | .ie => 0x040
  | .glitchcnt => 0x044
  | .param0 => 0x048
  | .param1 => 0x04C

/-- The registers of R22, in the order of their offsets. -/
def csrList : List Csr :=
  [.cmd, .status, .err, .erraddr, .fcause, .finfo, .arg, .res, .txlen, .timeout]
  ++ [.rxlen, .rssi, .rssiraw, .cfg, .bytetime, .pace, .ie, .glitchcnt, .param0, .param1]

/-- What the aligned offset `off` names in an instance `p` (R22); the rest of the window is reserved (R61). -/
def targetOf (p : Params) (off : Nat) : Target :=
  if off < 0x1000 then
    match csrList.find? fun r => r.offset == off with
    | some r => .csr r
    | none => .reserved
  else if off < 0x2000 then
    if (off - 0x1000) / 4 < p.maxPacket then .txbuf ((off - 0x1000) / 4) else .reserved
  else if off < 0x3000 then
    if (off - 0x2000) / 4 < p.rxbufSize then .rxbuf ((off - 0x2000) / 4) else .reserved
  else .reserved

/-- The value a read of a register returns (R23 to R44). -/
def State.csrRead (r : Csr) (s : State) : Word :=
  match r with
  | .cmd => 0
  | .status => s.statusWord
  | .err => s.err.slot.code
  | .erraddr => s.errAddrWord
  | .fcause => s.fcauseWord
  | .finfo => s.fatal.info
  | .arg => s.operands.arg
  | .res => s.enc.res
  | .txlen => s.operands.txlen.setWidth 32
  | .timeout => s.operands.timeout
  | .rxlen => s.rx.rxlen
  | .rssi => s.rx.rssi
  | .rssiraw => s.rx.rssiRaw.setWidth 32
  | .cfg => s.cfgWord
  | .bytetime => s.operands.bytetime.setWidth 32
  | .pace => s.operands.pace.setWidth 32
  | .ie => s.ieWord
  | .glitchcnt => s.glitchCnt
  | .param0 => param0Word s.params
  | .param1 => param1Word s.params

/-- The value a host read returns (R61, R65). -/
def State.targetRead (t : Target) (s : State) : Word :=
  match t with
  | .csr r => s.csrRead r
  | .txbuf i => (memRead s.txbuf i).setWidth 32
  | .rxbuf i => (memRead s.rxbuf i).setWidth 32
  | .reserved => 0

/-- BYTETIME as stored: "A written value of 0 is stored as 1" (R37). -/
def storedBytetime (v : Word) : BitVec 16 := if v.extractLsb' 0 16 = 0 then 1 else v.extractLsb' 0 16

/-- A write to an operand register while BUSY = 0 (R29, R31, R32, R36, R37, R38); other registers are not operands. -/
def Operands.write (r : Csr) (v : Word) (o : Operands) : Operands :=
  match r with
  | .arg => { o with arg := v }
  | .txlen => { o with txlen := v.extractLsb' 0 16 }
  | .timeout => { o with timeout := v }
  | .cfg => { o with thresh := v.extractLsb' 0 6, idle := v.getLsbD 8 }
  | .bytetime => { o with bytetime := storedBytetime v }
  | .pace => { o with pace := v.extractLsb' 0 16 }
  | .cmd | .status | .err | .erraddr | .fcause | .finfo | .res | .rxlen | .rssi | .rssiraw | .ie | .glitchcnt
  | .param0 | .param1 => o

/-- A host write to an operand register, ignored while BUSY = 1 (R64). -/
def State.writeOperand (r : Csr) (v : Word) (s : State) : State :=
  if s.flags.busy then s else { s with operands := s.operands.write r v }

/-- A host write to IE, accepted while BUSY = 1 too (R39). -/
def State.writeIe (v : Word) (s : State) : State :=
  { s with ie := { doneIe := v.getLsbD 0, fatalIe := v.getLsbD 1 } }

/-- A host write to a register (R22, R63): read-only registers ignore it. -/
def State.csrWrite (r : Csr) (v : Word) (s : State) : State :=
  match r with
  | .cmd => s.issue v
  | .status => s.writeStatus v
  | .ie => s.writeIe v
  | .arg | .txlen | .timeout | .cfg | .bytetime | .pace => s.writeOperand r v
  | .err | .erraddr | .fcause | .finfo | .res | .rxlen | .rssi | .rssiraw | .glitchcnt | .param0 | .param1 => s

/-- A host write to a buffer entry: TXBUF takes bits 7:0 while BUSY = 0, RXBUF is read-only (R45). -/
def State.writeTx (i : Nat) (v : Word) (s : State) : State :=
  if s.flags.busy then s else { s with txbuf := memWrite s.txbuf i (v.extractLsb' 0 8) }

/-- A host write (R61, R63, R64). -/
def State.targetWrite (t : Target) (v : Word) (s : State) : State :=
  match t with
  | .csr r => s.csrWrite r v
  | .txbuf i => s.writeTx i v
  | .rxbuf _ => s
  | .reserved => s

/-- The window offset of a bus address, if the access is one the spec gives a meaning: 32 bits wide, inside the
0x4000-byte window at BASE, at a multiple of 4 (R60, R78; log 13). -/
def accessOffset (p : Params) (bits : Nat) (addr : Word) : Option Nat :=
  if bits = 32 ∧ p.base.toNat ≤ addr.toNat ∧ addr.toNat < p.base.toNat + 0x4000 ∧ addr.toNat % 4 = 0 then
    some (addr.toNat - p.base.toNat)
  else none

/-- A host read returned `v`. -/
def State.returnRead (v : Word) (s : State) : State := { s with host := { s.host with reads := v :: s.host.reads } }

/-- A WAIT that has read BUSY = 1 reads STATUS again after one block turn (R101: "repeat RD STATUS until bit 0 (BUSY)
reads 0"; log 21). -/
def State.waitAgain (s : State) : State :=
  { s with host := { s.host with queue := { delay := 1, op := .wait } :: s.host.queue } }

/-- One turn of the host, its action already taken off the queue (R60, R63, R101, R240). -/
def hostStep (op : HostOp) (s : State) : Host.Outcome State Fault Refusal :=
  match op with
  | .reset => .next s.blockReset
  | .wait => .next (if s.flags.busy then (s.returnRead s.statusWord).waitAgain else s.returnRead s.statusWord)
  | .read bits addr =>
    match accessOffset s.params bits addr with
    | none => .refused .hostAccess
    | some off => .next (s.returnRead (s.targetRead (targetOf s.params off)))
  | .write bits addr v =>
    match accessOffset s.params bits addr with
    | none => .refused .hostAccess
    | some off => .next (s.targetWrite (targetOf s.params off) v)

/-! ### Host programs (R101) -/

/-- `<csr>` of a statement: "a name from 10_state.md rule R22, or `TXBUF[i]` or `RXBUF[i]`" (R101). -/
inductive ProgName where
  | csr (r : Csr)
  | txbuf (i : Nat)
  | rxbuf (i : Nat)
  deriving DecidableEq, Repr

/-- "It stands for the offset that rule gives" (R101, R22). -/
def ProgName.offset : ProgName → Nat
  | .csr r => r.offset
  | .txbuf i => 0x1000 + 4 * i
  | .rxbuf i => 0x2000 + 4 * i

/-- A statement of a host program; the pseudo-statements CMD, WAIT and LOADTX expand to it (R101). R80 leaves open how many
block steps pass before a statement: here none does (DESIGN CHOICE, log 27; unsafe for a claim about one program's run);
`withSchedule` gives every other schedule. -/
def hostStatement (op : HostOp) : HostEvent := { delay := 0, op := op }

/-- The same statements with the given numbers of block turns before them, the first number before the first statement;
where the numbers run out the rest stay as they are (R80; log 27). -/
def withSchedule : List Nat → List HostEvent → List HostEvent
  | _, [] => []
  | [], e :: es => e :: es
  | d :: ds, e :: es => { e with delay := d } :: withSchedule ds es

/-- The bus address of an offset in the window at BASE (R78). -/
def busAddr (p : Params) (off : Nat) : Word := p.base + BitVec.ofNat 32 off

/-- `WR <csr>, <value>`: "one host write (offset, value)" (R101). -/
def progWr (p : Params) (n : ProgName) (v : Word) : List HostEvent :=
  [hostStatement (.write 32 (busAddr p n.offset) v)]

/-- `RD <csr>`: "one host read (offset)" (R101). -/
def progRd (p : Params) (n : ProgName) : List HostEvent := [hostStatement (.read 32 (busAddr p n.offset))]

/-- `CMD <MNEMONIC>` and `CMD SETMODE, <mode>`: `WR CMD` of the command word (R101, R102). -/
def progCmd (p : Params) (i : Instr) : List HostEvent := progWr p (.csr .cmd) (encode i)

/-- `WAIT` (R101). -/
def progWait : List HostEvent := [hostStatement .wait]

/-- `WR TXBUF[k], b` for each byte, from index `k` on (R101). -/
def progTxBytes (p : Params) : Nat → List Byte → List HostEvent
  | _, [] => []
  | k, b :: rest => progWr p (.txbuf k) (b.setWidth 32) ++ progTxBytes p (k + 1) rest

/-- `LOADTX <b0>, ..., <bk>` (R101). -/
def progLoadTx (p : Params) (bytes : List Byte) : List HostEvent :=
  progTxBytes p 0 bytes ++ progWr p (.csr .txlen) (trunc32 bytes.length)

end Sys2Proof.Machine
end

