-- ==== Sys2Proof/Machine/Step.lean ====
section
/-! DEFINITION. One step of the machine: the host's turn or one atomic step of the block sequencer (R7, R13, R80). -/

namespace Sys2Proof.Machine

/-- The block's turn. An idle block does nothing: "the block runs nothing on its own" (R242; log 15). A word that
selects no command raises `Fatal(ILLEGAL, word)` "before any other effect of decoding" (R93, R97). -/
def blockStep (s : State) : Host.Outcome State Fault Refusal :=
  match s.fetch with
  | none => .next s
  | some w =>
    match decode w with
    | .error _ => .next (s.raiseFatal .illegal w)
    | .ok i => exec i s

/-- One step. Which agent moves is plain data: the head of the host's queue when it has no turns left to wait, the block
otherwise (log 5). Parameters that break R9 are refused (I26). -/
def step (s : State) : Host.Outcome State Fault Refusal :=
  if s.params.wf then
    match s.hostTurn with
    | some op => hostStep op s.popHost
    | none => blockStep s.tick
  else .refused .badParameters

/-- The queue whose head leaves at least one turn to the block. -/
def holdQueue : List HostEvent → List HostEvent
  | [] => []
  | e :: rest => { e with delay := max 1 e.delay } :: rest

/-- `s` with the command word accepted, as a host write to CMD leaves it (R96), and the next turn the block's: the very
next step decodes and runs it (log 14). A number of more than 32 bits is no command word and changes nothing. -/
def State.withFetchWord (s : State) (nbits w : Nat) : State :=
  match tableWord nbits w with
  | none => s
  | some word => { s.accept word with host := { s.host with queue := holdQueue s.host.queue } }

end Sys2Proof.Machine
end

