-- ==== Sys2Proof/Safety.lean ====
section
/-! DEFINITION. The terms claims use: consecutive steps of a command, the invariants of the machine, what a safe step is,
and the environment assumptions of R74 that the no-overrun guarantee (R180) rests on. -/

namespace Sys2Proof.Machine

open Sys2Proof.Config

/-! ### Running a command -/

/-- `k` consecutive atomic steps of the command `i`, with no host action between them. -/
def execN (i : Instr) : Nat → State → Host.Outcome State Fault Refusal
  | 0, s => .next s
  | k + 1, s =>
    match exec i s with
    | .next t => execN i k t
    | .fault r => .fault r
    | .refused r => .refused r

/-- Which positions are steps of which command (R97, R141 to R147, R172, R182, R192). -/
def Pos.belongs (i : Instr) (p : Pos) : Bool :=
  match i, p with
  | _, .start => true
  | .setFreq, .write2 | .setFreq, .write3 | .setFreq, .finish => true
  | .setBr, .write2 | .setBr, .finish => true
  | .setBw, .finish | .getmode, .finish => true
  | .setmode _, .mode .command _ | .setmode _, .finish => true
  | .send, .mode .sendStandby _ | .send, .mode .sendSettle _ | .send, .send _ | .send, .sent => true
  | .recv, .mode .recvReceiver _ | .recv, .mode .recvSettle _ | .recv, .recv _ | .recv, .finish => true
  | .sendrecv, .mode .sendStandby _ | .sendrecv, .mode .sendSettle _ | .sendrecv, .send _ | .sendrecv, .sent => true
  | .sendrecv, .mode .recvReceiver _ | .sendrecv, .mode .recvSettle _ | .sendrecv, .recv _ | .sendrecv, .finish => true
  | _, _ => false

/-- A position of `SendBody` after its first step (R172). -/
def inSendBody : Option Pos → Bool
  | some (.send _) => true
  | some (.mode .sendStandby _) => true
  | some (.mode .sendSettle _) => true
  | _ => false

/-- A position of the refill loop of `SendBody`: bytes are left to send (R178). -/
def inRefill : Option Pos → Bool
  | some (.send .pace) => true
  | some (.send .poll) => true
  | some (.send .refill) => true
  | _ => false

/-- A position of the byte loop of `Receive` (R182). -/
def inByteLoop : Option Pos → Bool
  | some (.recv .poll) => true
  | some (.recv .sleep) => true
  | some (.recv .byte) => true
  | _ => false

/-! ### Invariants -/

/-- The position belongs to the running command; a word that selects no command never leaves its start (R93, R97). -/
def phaseOk : Phase → Bool
  | .idle => true
  | .running w p =>
    match decode w with
    | .error _ => p == .start
    | .ok i => p.belongs i

/-- The sequencer's position makes sense for its command word. -/
abbrev PhaseCoherent (s : State) : Prop := phaseOk s.seq.phase = true

/-- Both byte arrays are in canonical form and inside their sizes (R45, R62). -/
abbrev MemoryCanonical (s : State) : Prop :=
  Memory.wf s.txbuf = true ∧ Memory.below s.params.maxPacket s.txbuf = true
    ∧ Memory.wf s.rxbuf = true ∧ Memory.below s.params.rxbufSize s.rxbuf = true

/-- BUSY is 1 exactly while a command runs (R24, R46); no command runs while FATAL = 1 (R213); DONE is 0 while BUSY or
FATAL is 1 (R96, R213); FATAL, FCAUSE and FINFO agree (R27, R28); a latched error has a record (R211); BYTETIME is never
0 (R37). -/
abbrev StatusCoherent (s : State) : Prop :=
  (s.flags.busy = true ↔ s.seq.phase ≠ .idle)
    ∧ (s.fatal.fatal = true → s.flags.busy = false)
    ∧ (s.flags.done = true → s.flags.busy = false ∧ s.fatal.fatal = false)
    ∧ (s.fatal.fatal = true ↔ s.fatal.cause ≠ none)
    ∧ (s.fatal.fatal = false → s.fatal.info = 0)
    ∧ (s.err.slot = .transport → s.err.kind ≠ none)
    ∧ s.operands.bytetime ≠ 0

/-- What the hidden state holds where a rule reads it (R46): the frame is `TXBUF[0..L) ++ {0x00}` all through `SendBody`
(R175), bytes are left in the refill loop (R178), the receive count stays within RXBUF (R187), the outcome is ABORT all
through the byte loop (R185), a sleep has budget (R186), and only a packet has a glitch byte dropped (R188). -/
abbrev SequencerCoherent (s : State) : Prop :=
  (inSendBody s.pos = true → s.seq.len = s.txlenNat ∧ s.seq.len ≤ s.params.maxPacket
      ∧ s.seq.frameLen = s.seq.len + 1 ∧ s.seq.frame = memSlice s.txbuf 0 s.seq.len ++ [0])
    ∧ (inRefill s.pos = true → s.seq.sent < s.seq.frameLen)
    ∧ s.seq.count ≤ s.params.rxbufSize
    ∧ (inByteLoop s.pos = true → s.seq.outcome = .abort ∧ s.seq.budget ≤ s.timeoutNat)
    ∧ (s.pos = some (.recv .sleep) → 0 < s.seq.budget)
    ∧ (s.seq.glitch = true → s.seq.outcome = .packet)

/-- The receive group is one of the results R190 and R191 can commit: RXLEN is 0 without a packet (R33), a glitch was
dropped only from a packet, and at most one of PKT, RXOVF, RXTMO is set. -/
abbrev ReceiveGroupLegal (s : State) : Prop :=
  (s.rx.pkt = false → s.rx.rxlen = 0)
    ∧ s.rx.rxlen.toNat ≤ s.params.rxbufSize
    ∧ (s.rx.glitch = true → s.rx.pkt = true)
    ∧ ¬(s.rx.pkt = true ∧ s.rx.rxovf = true) ∧ ¬(s.rx.pkt = true ∧ s.rx.rxtmo = true)
    ∧ ¬(s.rx.rxovf = true ∧ s.rx.rxtmo = true)

/-- The invariant of the machine. -/
structure Inv (s : State) : Prop where
  phase : PhaseCoherent s
  memory : MemoryCanonical s
  status : StatusCoherent s
  sequencer : SequencerCoherent s
  receive : ReceiveGroupLegal s

/-- A safe step: the machine goes on. -/
def SafeStep (s : State) : Prop := ∃ t, step s = .next t

/-! ### Frames and completion, as statements say them -/

/-- What no block step may change (R45, R64): the parameters, the operand registers, IE, CMDLOST, every byte of TXBUF,
and the host's port. -/
def KeepsHostSide (s t : State) : Prop :=
  t.params = s.params ∧ t.operands = s.operands ∧ t.ie = s.ie ∧ t.flags.cmdlost = s.flags.cmdlost
    ∧ (∀ a, memRead t.txbuf a = memRead s.txbuf a) ∧ t.host = s.host

/-- What only RECV and SENDRECV change (R24, R42, R45): the receive group, GLITCHCNT, every byte of RXBUF. -/
def KeepsReceiveSide (s t : State) : Prop :=
  t.rx = s.rx ∧ t.glitchCnt = s.glitchCnt ∧ ∀ a, memRead t.rxbuf a = memRead s.rxbuf a

/-- The command is over (R99): BUSY = 0, DONE = 1, phase idle, and STATUS.XERR is `x`. -/
def Completed (x : Bool) (t : State) : Prop :=
  t.flags.busy = false ∧ t.flags.done = true ∧ t.flags.xerr = x ∧ t.seq.phase = .idle

/-- A fatal fault `c` with information `v` was raised (R213): it is recorded, BUSY = 0, phase idle, DONE as it was; no
group, no ERR record and no XERR is written, no byte of a buffer changes, and no radio transaction is made. -/
def RaisedFatal (c : FatalCause) (v : Word) (s t : State) : Prop :=
  t.fatal.fatal = true ∧ t.fatal.cause = some c ∧ t.fatal.info = v
    ∧ t.flags.busy = false ∧ t.flags.done = s.flags.done ∧ t.flags.xerr = s.flags.xerr ∧ t.seq.phase = .idle
    ∧ t.enc = s.enc ∧ t.err = s.err ∧ t.radio = s.radio ∧ KeepsHostSide s t ∧ KeepsReceiveSide s t

/-- The frame of a pure command (R91, R98): besides its results, nothing but BUSY, DONE and phase changes; it makes no
radio transaction and neither reads nor writes ERR. -/
def PureFrame (s t : State) : Prop :=
  t.fatal = s.fatal ∧ t.err = s.err ∧ t.radio = s.radio ∧ KeepsHostSide s t ∧ KeepsReceiveSide s t

/-- The frame of a mode, register or SEND command's run: besides its results, XERR, ERR, hidden state and what went over
the radio port, nothing changes. -/
def DeviceFrame (s t : State) : Prop := t.fatal = s.fatal ∧ KeepsHostSide s t ∧ KeepsReceiveSide s t

/-- The radio port after a run: the record has grown by `txns` (newest first) and the pending answers are `rest`. -/
def PortRan (s t : State) (txns : List Txn) (rest : List RadioAnswer) : Prop :=
  t.radio.log = txns ++ s.radio.log ∧ t.radio.answers = rest

/-- The record of the last latched error (R211): ERR = 1, ERRADDR names the transaction. -/
def LatchedAt (k : TxnKind) (a : RegAddr) (t : State) : Prop :=
  t.err.slot = .transport ∧ t.err.kind = some k ∧ t.err.addr = a

/-- A step of straight-line code of command `i` from `s` (R67 to R70, R211): the command goes on at `q` whatever ERR holds and
whatever the radio answers; with ERR latched the transaction is a no-op, and otherwise the record `x` of it, an access of kind
`k` at `a`, is made with the next answer, a failed one latches, and nothing else changes but phase. -/
def RunsOn (i : Instr) (s : State) (k : TxnKind) (a : RegAddr) (x : RadioAnswer → Txn) (q : Pos) : Prop :=
  ∃ t, exec i s = .next t ∧ t.pos = some q ∧ t.flags = s.flags ∧ t.enc = s.enc ∧ DeviceFrame s t
    ∧ t.seq = { s.seq with phase := t.seq.phase, xerr := t.seq.xerr }
    ∧ (s.errLatched = true → t.radio = s.radio ∧ t.err = s.err ∧ t.seq.xerr = s.seq.xerr)
    ∧ (s.errLatched = false → PortRan s t [x s.nextAnswer] s.radio.answers.tail
      ∧ (∀ b, s.nextAnswer = .ok b → t.err = s.err ∧ t.seq.xerr = s.seq.xerr)
      ∧ (s.nextAnswer = .fail → LatchedAt k a t ∧ t.seq.xerr = true))

/-- The transaction of a record entry that the radio answered with fail, as R211 names it: its kind and its address, which
is 0 for an RAwait (R26). -/
def failedTxn : Txn → Option (TxnKind × RegAddr)
  | .read a .fail => some (.read, a)
  | .write a _ .fail => some (.write, a)
  | .burst a _ .fail => some (.burst, a)
  | .await _ .fail => some (.await, 0)
  | .read _ (.ok _) | .write _ _ (.ok _) | .burst _ _ (.ok _) | .await _ (.ok _) | .sleep _ => none

/-- The step made a failed transaction, and the latch of R211 is its own: ERR and ERRADDR name the record's new entry, and
xerr is 1. -/
def LatchesFailure (s t : State) : Prop :=
  ∃ x k a, t.radio.log = x :: s.radio.log ∧ failedTxn x = some (k, a) ∧ LatchedAt k a t ∧ t.seq.xerr = true

/-- The step of command `i` is the first of a `SetMode` that may find ERR latched: at a call's own first position, or the
start of SETMODE. (A send's start, the first step of its `SetMode(Standby)`, is behind the gate, so ERR is 0 there: R98.) -/
def FirstOfSetMode (i : Instr) (s : State) : Prop :=
  (∃ c, s.pos = some (.mode c .enter)) ∨ (s.pos = some .start ∧ ∃ m, i = .setmode m)

/-- What a host read of the window offset `off` returns (R22, R61). -/
def State.windowRead (off : Nat) (s : State) : Word := s.targetRead (targetOf s.params off)

/-! ### Mode transitions, as statements say them -/

/-- Command `i` makes the call `c` of `SetMode` with the target `m`: the mode of the command word (R143), Standby = 1 before
a send (R176), Receiver = 5 before a receive (R183), and for a `SettleIdle` Standby = 1 if bit 8 of CFG, IDLE, is 1, and
Sleep = 0 if it is 0 (R41, R142). -/
def CallsMode (i : Instr) (c : ModeCall) (m : BitVec 3) (s : State) : Prop :=
  match c with
  | .command => i = .setmode m ∧ m.toNat ≤ 5
  | .sendStandby => (i = .send ∨ i = .sendrecv) ∧ m = 1
  | .sendSettle => (i = .send ∨ i = .sendrecv) ∧ m = if (s.csrRead .cfg).getLsbD 8 then 1 else 0
  | .recvReceiver => (i = .recv ∨ i = .sendrecv) ∧ m = 5
  | .recvSettle => (i = .recv ∨ i = .sendrecv) ∧ m = if (s.csrRead .cfg).getLsbD 8 then 1 else 0

/-- The next step is the first of the call `c`: its own position, or the start of a command whose first transaction it makes
(SETMODE, and a SEND or SENDRECV that passes the length check and the gate). -/
def BeginsMode (c : ModeCall) (s : State) : Prop :=
  s.pos = some (.mode c .enter)
    ∨ (s.pos = some .start
      ∧ (c = .command
        ∨ (c = .sendStandby ∧ s.errLatched = false ∧ s.operands.txlen.toNat ≤ s.params.maxPacket)))

/-- A `SetMode` called as `c` has returned with no error: the command goes on at the position after it, ERR is cleared and
ERRADDR kept (R141), and nothing else changed but the radio port and hidden state; of that, phase and the `A_OPMODE` byte
alone, or, where the call is the start of a send, the frame as well (R175). -/
def ModeReturned (c : ModeCall) (s t : State) : Prop :=
  t.pos = some (modeReturn c) ∧ t.err = { s.err with slot := .none } ∧ t.seq.xerr = s.seq.xerr ∧ t.flags = s.flags
    ∧ t.enc = s.enc ∧ DeviceFrame s t
    ∧ (s.pos = some (.mode c .enter) → t.seq = { s.seq with phase := t.seq.phase, opmode := t.seq.opmode })
    ∧ (s.pos = some .start → c = .sendStandby →
        t.seq.frame = memSlice s.txbuf 0 s.operands.txlen.toNat ++ [0] ∧ t.seq.frameLen = s.operands.txlen.toNat + 1)

/-- One round of `SetMode`'s poll that does not end it, with a mode-ready bit (R141): the mode read is another one, or it is
the target `r` but the flag byte `f` has no MODE_READY. -/
inductive PollRound where
  | other (x : Byte)
  | notReady (r f : Byte)
  deriving DecidableEq, Repr

/-- The round is one the poll of a `SetMode` to `m` goes on after. -/
def PollRound.holds (p : RadioProfile) (m : BitVec 3) : PollRound → Bool
  | .other x => !modeIs p x m
  | .notReady r f => modeIs p r m && !flagSet f p.mModeReady

/-- The radio's answers in a round. -/
def PollRound.answers : PollRound → List RadioAnswer
  | .other x => [.ok x]
  | .notReady r f => [.ok r, .ok f]

/-- The transactions of a round, newest first. -/
def PollRound.txns (p : RadioProfile) : PollRound → List Txn
  | .other x => [.read p.aOpmode (.ok x)]
  | .notReady r f => [.read p.aIrqFlags1 (.ok f), .read p.aOpmode (.ok r)]

/-! ### What the block sent, and the radio's FIFO -/

/-- The bytes of every burst in a record, oldest first (the record is newest first). -/
def burstBytes : List Txn → List Byte
  | [] => []
  | .burst _ bytes _ :: rest => burstBytes rest ++ bytes
  | .read _ _ :: rest => burstBytes rest
  | .write _ _ _ :: rest => burstBytes rest
  | .await _ _ :: rest => burstBytes rest
  | .sleep _ :: rest => burstBytes rest

/-- How many sleeps a record holds. -/
def sleepCount : List Txn → Nat
  | [] => 0
  | .sleep _ :: rest => sleepCount rest + 1
  | .read _ _ :: rest => sleepCount rest
  | .write _ _ _ :: rest => sleepCount rest
  | .burst _ _ _ :: rest => sleepCount rest
  | .await _ _ :: rest => sleepCount rest

/-- How many bytes step `s` to `t` wrote to the radio's FIFO. -/
def bytesBurst (s t : State) : Nat := (burstBytes t.radio.log).length - (burstBytes s.radio.log).length

/-- What is known of the number `c` of bytes in the radio's FIFO at a step of `SendBody`: never above its depth, none
before the first burst (E5), at most THRESH before a refill burst (R180). -/
def FifoRoom (c : Nat) (s : State) : Prop :=
  c ≤ s.params.fifoDepth
    ∧ (s.pos = some (.send .first) → c = 0)
    ∧ (s.pos = some (.send .refill) → c ≤ s.threshNat)

/-- Assumption E1 for FIFO_LEVEL at the next transaction (R74): the flag is 1 exactly when the FIFO holds more than
CFG.THRESH bytes. -/
def LevelFlagTrue (c : Nat) (s : State) : Prop :=
  ∀ f, s.nextAnswer = .ok f → flagSet f s.params.profile.mFifoLevel = decide (s.threshNat < c)

/-- The bytes of a receive stream as the radio answers them: each byte is a poll that reads FIFO_EMPTY = 0, then the
byte (R187); `f` is the flag byte of every poll. -/
def byteAnswers (f : Byte) : List Byte → List RadioAnswer
  | [] => []
  | b :: rest => .ok f :: .ok b :: byteAnswers f rest

/-- The transactions that read a receive stream, newest first: for each byte a poll of `A_IRQFLAGS2` that answers `f`, then
the read of `A_FIFO` (R187). -/
def byteReads (p : RadioProfile) (f : Byte) : List Byte → List Txn
  | [] => []
  | b :: rest => byteReads p f rest ++ [.read p.aFifo (.ok b), .read p.aIrqFlags2 (.ok f)]

/-- The packet a receive stream delivers: the bytes before the sentinel, less one glitch byte at their end (R188). -/
def delivered (bytes : List Byte) : List Byte :=
  match bytes.getLast? with
  | some b => if isGlitch b then bytes.dropLast else bytes
  | none => bytes

/-- What is left of the byte loop, as a number that falls at each of its steps: bytes of RXBUF still free, budget still
unspent, and the step inside one iteration (R251). -/
def byteLoopMeasure (s : State) : Nat :=
  2 * (s.params.rxbufSize + 1 - s.seq.count) + 2 * s.seq.budget + (if s.pos = some (.recv .poll) then 1 else 0)

end Sys2Proof.Machine
end

