-- ==== Sys2Proof/Certificates/Slice0/Obligations.lean ====
section
/-! DEFINITION. The statements for the provers. Each docstring names the rule or the section of spec/ it formalises. -/

open Sys2Proof Sys2Proof.Machine Sys2Proof.Config

/-! ### Encoding -/

/-- R90 to R92, R102: the word of a well-formed command decodes to that command, SETMODE at each of its modes. -/
def Obligations.DecodeEncodeIdentity : Prop :=
  ∀ i : Instr, WellFormed i → decode (encode i) = .ok i

/-- R92 to R94: a word that decodes is the one word of a well-formed command; no bit of it is ignored. -/
def Obligations.DecodedWordIsItsEncoding : Prop :=
  ∀ (w : Word) (i : Instr), decode w = .ok i → WellFormed i ∧ encode i = w

/-- R92: a word selects the command whose row it matches under the row's mask (SETMODE with MODE at most 5), and only
then a command at all. -/
def Obligations.WordSelectsCommandByMask : Prop :=
  ∀ w : Word,
    (∀ i, decode w = .ok i → ∃ r ∈ opcodeRows, r.mnemonic = i.mnemonic ∧ w &&& r.mask = r.pattern
        ∧ (r.mnemonic = "SETMODE" → (modeField w).toNat ≤ 5))
    ∧ (∀ r ∈ opcodeRows, w &&& r.mask = r.pattern → (r.mnemonic = "SETMODE" → (modeField w).toNat ≤ 5) →
        ∃ i, decode w = .ok i ∧ i.mnemonic = r.mnemonic)

/-- R102: the command words, each written out from R91 (a sanity statement). -/
def Obligations.CommandWordsDecode : Prop :=
  decode 0x00000000 = .ok .nop ∧ decode 0x00000001 = .ok .freqEnc ∧ decode 0x00000004 = .ok .brDec
    ∧ decode 0x00000012 = .ok .setBw ∧ decode 0x00000520 = .ok (.setmode 5) ∧ decode 0x00000021 = .ok .getmode
    ∧ decode 0x00000030 = .ok .send ∧ decode 0x00000032 = .ok .sendrecv

/-- R93, R97 (1): on the block's turn, a word that selects no command raises `Fatal(ILLEGAL, word)` and has no other
effect: in particular no radio transaction is made. -/
def Obligations.IllegalWordRaisesFatal : Prop :=
  ∀ (s : State) (w : Word) (e : DecodeError),
    s.params.wf = true → s.hostTurn = none → s.seq.phase = .running w .start → decode w = .error e →
    ∃ t, step s = .next t ∧ RaisedFatal .illegal w s.tick t

/-! ### The step -/

/-- R7, R21, R46: on the block's turn a step is the meaning of the command whose word stands in phase, in the state
charged with one block turn (`tick` touches the host's queue alone; the queue is the model's own, log 5). -/
def Obligations.StepRunsDecodedCommand : Prop :=
  ∀ (s : State) (w : Word) (p : Pos) (i : Instr),
    s.params.wf = true → s.hostTurn = none → s.seq.phase = .running w p → decode w = .ok i →
    step s = exec i s.tick ∧ s.tick = { s with host := s.tick.host } ∧ s.tick.host.reads = s.host.reads

/-- R242: an idle block runs nothing on its own; with nothing pending at the host's port (the model's queue, log 5) the
state stays as it is (log 15; that the hidden state stays too is the model's choice, log 25). -/
def Obligations.IdleBlockRunsNothing : Prop :=
  ∀ s : State, s.params.wf = true → s.hostTurn = none → s.seq.phase = .idle →
    ∃ t, step s = .next t ∧ t = { s with host := t.host } ∧ t.host.reads = s.host.reads
      ∧ (s.host.queue = [] → t = s)

/-! ### The numeric encoder -/

/-- R103: NOP completes from every state and leaves every CSR as it was, except BUSY = 0 and DONE = 1. -/
def Obligations.NopCompletes : Prop :=
  ∀ s : State, encode .nop = 0x00000000 ∧ ∃ t, exec .nop s = .next t ∧ Completed s.flags.xerr t ∧ t.enc = s.enc
    ∧ PureFrame s t

/-- R111, R122: FREQ_ENC from every state: RES is `round(hz * 2^19 / FOSC)` truncated to 24 bits, RANGE says whether it
did not fit, which is for `hz` from 1,023,999,970 upward. -/
def Obligations.FreqEncResult : Prop :=
  ∀ s : State, encode .freqEnc = 0x00000001 ∧ ∃ t, exec .freqEnc s = .next t
    ∧ t.enc.res.toNat = ((2 * (s.operands.arg.toNat * 2 ^ 19) + 32000000) / (2 * 32000000)) % 2 ^ 24
    ∧ (t.enc.range = true ↔ 0xFFFFFF < (2 * (s.operands.arg.toNat * 2 ^ 19) + 32000000) / (2 * 32000000))
    ∧ (t.enc.range = true ↔ 1023999970 ≤ s.operands.arg.toNat)
    ∧ Completed s.flags.xerr t ∧ PureFrame s t

/-- R112, R123: FREQ_DEC from every state: RES is `(ARG[23:0] * FOSC) div 2^19`, at most 1,023,999,938; RANGE = 0. -/
def Obligations.FreqDecResult : Prop :=
  ∀ s : State, encode .freqDec = 0x00000002 ∧ ∃ t, exec .freqDec s = .next t
    ∧ t.enc.res.toNat = (s.operands.arg.toNat % 2 ^ 24) * 32000000 / 2 ^ 19
    ∧ t.enc.res.toNat ≤ 1023999938 ∧ t.enc.range = false
    ∧ Completed s.flags.xerr t ∧ PureFrame s t

/-- R114, R124: BR_ENC from every state: `bps` = 0 is fatal DIVZERO with FINFO 0x03; otherwise RES is
`(FOSC + bps div 2) div bps` truncated to 16 bits, and RANGE is set for `bps` in 1..488 alone. -/
def Obligations.BrEncResult : Prop :=
  ∀ s : State, encode .brEnc = 0x00000003 ∧ ∃ t, exec .brEnc s = .next t
    ∧ (s.operands.arg = 0 → RaisedFatal .divzero 0x03 s t)
    ∧ (s.operands.arg ≠ 0 →
        t.enc.res.toNat = ((32000000 + s.operands.arg.toNat / 2) / s.operands.arg.toNat) % 2 ^ 16
        ∧ (t.enc.range = true ↔ 0xFFFF < (32000000 + s.operands.arg.toNat / 2) / s.operands.arg.toNat)
        ∧ (t.enc.range = true ↔ s.operands.arg.toNat ≤ 488)
        ∧ Completed s.flags.xerr t ∧ PureFrame s t)

/-- R115, R125: BR_DEC from every state: `ARG[15:0]` = 0 is fatal DIVZERO with FINFO 0x04; otherwise RES is
`(FOSC + raw div 2) div raw`, at most 32,000,000, and RANGE = 0. -/
def Obligations.BrDecResult : Prop :=
  ∀ s : State, encode .brDec = 0x00000004 ∧ ∃ t, exec .brDec s = .next t
    ∧ (s.operands.arg.toNat % 2 ^ 16 = 0 → RaisedFatal .divzero 0x04 s t)
    ∧ (s.operands.arg.toNat % 2 ^ 16 ≠ 0 →
        t.enc.res.toNat
          = (32000000 + s.operands.arg.toNat % 2 ^ 16 / 2) / (s.operands.arg.toNat % 2 ^ 16)
        ∧ t.enc.res.toNat ≤ 32000000 ∧ t.enc.range = false
        ∧ Completed s.flags.xerr t ∧ PureFrame s t)

/-- R117: `BwSelect` clamps at both ends, and between them takes the nearer of the least member of the achievable set at
or above the request and the greatest member below it, ties going to the one at or above. -/
def Obligations.BwSelectNearest : Prop :=
  ∀ hz : Nat,
    (hz ≤ 2604 → bwSelect hz = ⟨24, 7⟩) ∧ (250000 ≤ hz → bwSelect hz = ⟨16, 1⟩)
    ∧ (2604 < hz → hz < 250000 → ∀ hi ∈ achievable, ∀ lo ∈ achievable, hz ≤ bwHz hi → bwHz lo < hz →
        (∀ a ∈ achievable, hz ≤ bwHz a → bwHz hi ≤ bwHz a) → (∀ a ∈ achievable, bwHz a < hz → bwHz a ≤ bwHz lo) →
        bwSelect hz = if hz - bwHz lo < bwHz hi - hz then lo else hi)

/-- R120, R126: BW_ENC from every state: RES is the byte `(code(m) << 3) | e` of `BwSelect(ARG)`, a setting of the
achievable set, with code(16) = 0, code(20) = 1, code(24) = 2; RANGE = 0. -/
def Obligations.BwEncResult : Prop :=
  ∀ s : State, encode .bwEnc = 0x00000005 ∧ ∃ t b, exec .bwEnc s = .next t
    ∧ b = bwSelect s.operands.arg.toNat ∧ b ∈ achievable
    ∧ (b.mantissa = 16 → t.enc.res.toNat = b.exponent)
    ∧ (b.mantissa = 20 → t.enc.res.toNat = 8 + b.exponent)
    ∧ (b.mantissa = 24 → t.enc.res.toNat = 16 + b.exponent)
    ∧ t.enc.range = false ∧ Completed s.flags.xerr t ∧ PureFrame s t

/-- R121, R127: BW_DEC from every state: with `c = ARG[4:3]` and `e = ARG[2:0]`, `c` = 3 is fatal ENCODING with the byte
`ARG[7:0]`; otherwise RES is `FOSC div (m * 2^(e + 2))` for m = 16, 20, 24, exponent 0 included; RANGE = 0. -/
def Obligations.BwDecResult : Prop :=
  ∀ s : State, encode .bwDec = 0x00000006 ∧ ∃ t, exec .bwDec s = .next t
    ∧ (s.operands.arg.toNat / 8 % 4 = 3 →
        RaisedFatal .encoding (BitVec.ofNat 32 (s.operands.arg.toNat % 256)) s t)
    ∧ (s.operands.arg.toNat / 8 % 4 ≠ 3 →
        t.enc.res.toNat
          = 32000000 / ((16 + 4 * (s.operands.arg.toNat / 8 % 4)) * 2 ^ (s.operands.arg.toNat % 8 + 2))
        ∧ t.enc.range = false ∧ Completed s.flags.xerr t ∧ PureFrame s t)

/-- 40_numeric_encoder.md section 1, round-trip laws (1) and (2): every 24-bit word survives decoding and encoding, and a
frequency survives encoding and decoding exactly when some word decodes to it. -/
def Obligations.FrequencyRoundTrip : Prop :=
  (∀ k, k < 2 ^ 24 → freqEncRaw (freqDec k) = k)
    ∧ (∀ hz, freqDec (freqEncRaw hz) = hz ↔ ∃ k, k < 2 ^ 24 ∧ hz = freqDec k)

/-- 40_numeric_encoder.md section 1, round-trip law (5): the dividers 1..5723 survive decoding and encoding; 5724 is the
first that does not. -/
def Obligations.BitrateRoundTrip : Prop :=
  (∀ k, 1 ≤ k → k ≤ 5723 → brEncRaw (brDec k) = k) ∧ brDec 5724 = 5590 ∧ brEncRaw 5590 = 5725

/-- 40_numeric_encoder.md section 1, round-trip laws (3) and (4): a byte with `b[7:5] = 0`, `b[4:3] != 3` and
`b[2:0] >= 1` survives decoding and encoding, and a bandwidth survives encoding and decoding exactly when it is in the
achievable set. -/
def Obligations.BandwidthRoundTrip : Prop :=
  (∀ b : Byte, b.toNat < 32 → b.toNat / 8 ≠ 3 → 1 ≤ b.toNat % 8 →
      ∃ hz, bwDec b = some hz ∧ bwEncByte (bwSelect hz) = b)
    ∧ (∀ hz, bwDec (bwEncByte (bwSelect hz)) = some hz ↔ ∃ a ∈ achievable, bwHz a = hz)

/-! ### Mode transition and register commands -/

/-- R140: `WithMode` keeps every bit outside the mode field, and the field reads back as the mode written. -/
def Obligations.WithModeKeepsOtherBits : Prop :=
  ∀ (p : RadioProfile) (v : Byte) (m : BitVec 3), p.modeFieldOk = true →
    withMode p v m &&& ~~~p.mMode = v &&& ~~~p.mMode ∧ modeOf p (withMode p v m) = m.setWidth 8

/-- 41_mode_and_register_commands.md sections 2 and 3: every `SetMode` of every command, on a radio that already reports
the target, makes exactly one radio read and no write, clears ERR, keeps ERRADDR and returns; SETMODE then completes. -/
def Obligations.SetmodeAlreadyInMode : Prop :=
  ∀ (s : State) (i : Instr) (c : ModeCall) (m : BitVec 3) (v : Byte) (rest : List RadioAnswer),
    CallsMode i c m s → BeginsMode c s → s.radio.answers = .ok v :: rest → modeIs s.params.profile v m = true →
    (∃ t, exec i s = .next t ∧ PortRan s t [.read s.params.profile.aOpmode (.ok v)] rest ∧ ModeReturned c s t)
    ∧ (c = .command → ∃ t, execN i 2 s = .next t
      ∧ PortRan s t [.read s.params.profile.aOpmode (.ok v)] rest
      ∧ t.err = { s.err with slot := .none }
      ∧ Completed s.seq.xerr t ∧ t.enc = s.enc ∧ DeviceFrame s t)

/-- R141, R142: every `SetMode` of every command (SETMODE's own, to Standby before a send, to Receiver before a receive,
and `SettleIdle` to the mode CFG.IDLE names), where the radio has no mode-ready bit and is in another mode: one read, one
write of the mode bits, and a poll for each answer that is not yet the target mode, the last of them the target; then it
returns with ERR cleared, and SETMODE completes. -/
def Obligations.SetmodeTransition : Prop :=
  ∀ (s : State) (i : Instr) (c : ModeCall) (m : BitVec 3) (v w r : Byte) (waits : List Byte) (rest : List RadioAnswer)
    (txns : List Txn),
    CallsMode i c m s → BeginsMode c s → s.params.hasModeReady = false →
    s.radio.answers = .ok v :: .ok w :: (waits.map RadioAnswer.ok ++ .ok r :: rest) →
    modeIs s.params.profile v m = false → (∀ x ∈ waits, modeIs s.params.profile x m = false) →
    modeIs s.params.profile r m = true →
    txns = .read s.params.profile.aOpmode (.ok r)
      :: ((waits.reverse.map fun x => Txn.read s.params.profile.aOpmode (.ok x))
        ++ [.write s.params.profile.aOpmode (withMode s.params.profile v m) (.ok w),
            .read s.params.profile.aOpmode (.ok v)]) →
    (∃ t, execN i (waits.length + 3) s = .next t ∧ PortRan s t txns rest ∧ ModeReturned c s t)
    ∧ (c = .command → ∃ t, execN i (waits.length + 4) s = .next t ∧ PortRan s t txns rest
      ∧ t.err = { s.err with slot := .none }
      ∧ Completed s.seq.xerr t ∧ t.enc = s.enc ∧ DeviceFrame s t)

/-- R141 with a mode-ready bit, for every `SetMode` of every command: each round of the poll reads the mode, and after the
target mode the mode-ready bit; it goes round for another mode and while the bit is 0, any number of times in any order
(also none), and returns at the first target mode with the bit 1; SETMODE then completes. -/
def Obligations.SetmodeWaitsForModeReady : Prop :=
  ∀ (s : State) (i : Instr) (c : ModeCall) (m : BitVec 3) (v w r f : Byte) (rounds : List PollRound)
    (rest : List RadioAnswer) (txns : List Txn),
    CallsMode i c m s → BeginsMode c s → s.params.hasModeReady = true →
    s.radio.answers = .ok v :: .ok w :: (rounds.flatMap PollRound.answers ++ .ok r :: .ok f :: rest) →
    modeIs s.params.profile v m = false → (∀ x ∈ rounds, x.holds s.params.profile m = true) →
    modeIs s.params.profile r m = true → flagSet f s.params.profile.mModeReady = true →
    txns = .read s.params.profile.aIrqFlags1 (.ok f) :: .read s.params.profile.aOpmode (.ok r)
      :: (rounds.reverse.flatMap (PollRound.txns s.params.profile)
        ++ [.write s.params.profile.aOpmode (withMode s.params.profile v m) (.ok w),
            .read s.params.profile.aOpmode (.ok v)]) →
    (∃ t, execN i ((rounds.flatMap PollRound.answers).length + 4) s = .next t ∧ PortRan s t txns rest
      ∧ ModeReturned c s t)
    ∧ (c = .command → ∃ t, execN i ((rounds.flatMap PollRound.answers).length + 5) s = .next t
      ∧ PortRan s t txns rest ∧ t.err = { s.err with slot := .none }
      ∧ Completed s.seq.xerr t ∧ t.enc = s.enc ∧ DeviceFrame s t)

/-- 70_reset_and_hazards.md section 3, unbounded waits: while the radio goes on answering another mode, SETMODE's poll and
SEND's completion wait stay where they are, whatever number of answers has come, with BUSY unchanged. -/
def Obligations.PollsHoldWithoutTheirAnswer : Prop :=
  ∀ (s : State) (m : BitVec 3) (waits : List Byte) (rest : List RadioAnswer),
    s.errLatched = false → s.radio.answers = waits.map RadioAnswer.ok ++ rest →
    (m.toNat ≤ 5 → s.pos = some (.mode .command .poll) →
        (∀ x ∈ waits, modeIs s.params.profile x m = false) →
        ∃ t, execN (.setmode m) waits.length s = .next t ∧ t.pos = s.pos ∧ t.flags = s.flags
          ∧ t.radio.answers = rest)
    ∧ (s.pos = some (.send .wait) → (∀ x ∈ waits, modeIs s.params.profile x modeStandby = false) →
        ∃ t, execN .send waits.length s = .next t ∧ t.pos = s.pos ∧ t.flags = s.flags ∧ t.radio.answers = rest)

/-- 60_exceptions.md section 2: when an error latches "the command does not stop": it "keeps running its pseudocode", every
later transaction "is a no-op while ERR != 0", and "every loop of the framer and of `SetMode` tests ERR and ends". (1) A failed
first read of any `SetMode`, at a command's start too, latches and the `SetMode` returns. (2) A failed read in a loop latches
and goes on after the loop. (3) A loop met with ERR latched ends with no transaction. (4) Straight-line code goes on at its
next step whether its transaction succeeds, fails and latches, or is a no-op: `SetMode`'s write; SEND's clear, arm, length and
stop; RECV's start, await and clear. SEND's first burst made a no-op counts as sent. (5) At its end SETMODE, and SEND, completes
with XERR = xerr, keeps ERR, and makes no transaction. -/
def Obligations.FailedReadEndsEveryLoop : Prop :=
  ∀ (i : Instr) (s : State) (p : Pos), WellFormed i → s.pos = some p → p.belongs i = true →
    (∀ c m, CallsMode i c m s → BeginsMode c s → s.nextAnswer = .fail → ∃ t, exec i s = .next t
      ∧ PortRan s t [.read s.params.profile.aOpmode .fail] s.radio.answers.tail
      ∧ LatchedAt .read s.params.profile.aOpmode t ∧ t.seq.xerr = true ∧ t.pos = some (modeReturn c)
      ∧ t.flags = s.flags ∧ t.enc = s.enc ∧ DeviceFrame s t)
    ∧ (s.errLatched = false → s.nextAnswer = .fail →
      (∀ c, p = .mode c .poll → ∃ t, exec i s = .next t ∧ LatchedAt .read s.params.profile.aOpmode t
          ∧ t.seq.xerr = true ∧ t.pos = some (modeReturn c))
      ∧ (∀ c, p = .mode c .ready → ∃ t, exec i s = .next t ∧ LatchedAt .read s.params.profile.aIrqFlags1 t
          ∧ t.seq.xerr = true ∧ t.pos = some (modeReturn c))
      ∧ (p = .send .poll → ∃ t, exec i s = .next t ∧ LatchedAt .read s.params.profile.aIrqFlags2 t
          ∧ t.seq.xerr = true ∧ t.pos = some (.send .wait))
      ∧ (p = .send .wait → ∃ t, exec i s = .next t ∧ LatchedAt .read s.params.profile.aOpmode t
          ∧ t.seq.xerr = true ∧ t.pos = some (.send .stop))
      ∧ (p = .recv .poll → ∃ t, exec i s = .next t ∧ LatchedAt .read s.params.profile.aIrqFlags2 t
          ∧ t.seq.xerr = true ∧ t.seq.outcome = s.seq.outcome ∧ t.pos = some (.mode .recvSettle .enter))
      ∧ (p = .recv .byte → ∃ t, exec i s = .next t ∧ LatchedAt .read s.params.profile.aFifo t
          ∧ t.seq.xerr = true ∧ t.seq.outcome = s.seq.outcome ∧ t.pos = some (.mode .recvSettle .enter)))
    ∧ (s.errLatched = true →
      (∀ c, p = .mode c .poll → ∃ t, exec i s = .next t ∧ t.radio = s.radio ∧ t.err = s.err
          ∧ t.pos = some (modeReturn c))
      ∧ (p = .send .wait → ∃ t, exec i s = .next t ∧ t.radio = s.radio ∧ t.err = s.err
          ∧ t.pos = some (.send .stop))
      ∧ (p = .recv .poll → ∃ t, exec i s = .next t ∧ t.radio = s.radio ∧ t.err = s.err
          ∧ t.seq.outcome = s.seq.outcome ∧ t.pos = some (.mode .recvSettle .enter)))
    ∧ ((∀ c m, p = .mode c .write → CallsMode i c m s → RunsOn i s .write s.params.profile.aOpmode
          (.write s.params.profile.aOpmode (withMode s.params.profile s.seq.opmode m)) (.mode c .poll))
      ∧ (p = .send .clear → RunsOn i s .write s.params.profile.aIrqFlags2
          (.write s.params.profile.aIrqFlags2 s.params.profile.mFifoOverrun) (.send .arm))
      ∧ (p = .send .arm → RunsOn i s .write s.params.profile.aSeqConfig1
          (.write s.params.profile.aSeqConfig1 s.params.seqTxArm) (.send .length))
      ∧ (p = .send .length → RunsOn i s .write s.params.profile.aPayloadLength
          (.write s.params.profile.aPayloadLength (BitVec.ofNat 8 s.seq.frameLen)) (.send .first))
      ∧ (p = .send .first → s.errLatched = true → ∃ t, exec i s = .next t ∧ t.pos = some (.send .wait)
          ∧ t.seq = { s.seq with phase := t.seq.phase, sent := min s.seq.frameLen s.params.fifoDepth }
          ∧ t.radio = s.radio ∧ t.err = s.err ∧ t.flags = s.flags ∧ t.enc = s.enc ∧ DeviceFrame s t)
      ∧ (p = .send .stop → RunsOn i s .write s.params.profile.aSeqConfig1
          (.write s.params.profile.aSeqConfig1 s.params.seqStop) (.mode .sendSettle .enter))
      ∧ ((i = .recv ∧ p = .start) ∨ (i = .sendrecv ∧ p = .sent) → s.errLatched = false →
          RunsOn i s .write s.params.profile.aPayloadLength (.write s.params.profile.aPayloadLength 0)
            (.mode .recvReceiver .enter))
      ∧ (p = .recv .await → RunsOn i s .await 0 (.await s.operands.timeout.toNat) (.recv .rssi))
      ∧ (p = .recv .clear → RunsOn i s .write s.params.profile.aIrqFlags2
          (.write s.params.profile.aIrqFlags2 s.params.profile.mFifoOverrun) .finish))
    ∧ ((∃ m, i = .setmode m) ∧ p = .finish ∨ i = .send ∧ p = .sent → ∃ t, exec i s = .next t
      ∧ Completed s.seq.xerr t ∧ t.err = s.err ∧ t.radio = s.radio ∧ t.enc = s.enc ∧ DeviceFrame s t)

/-- R144: GETMODE. Gated, it makes no transaction and writes nothing but XERR = 0; otherwise it reads A_OPMODE once, RES
is the mode field of the byte (of 0x00 if the read failed, which latches), RANGE = 0. -/
def Obligations.GetmodeRun : Prop :=
  ∀ (s : State), encode .getmode = 0x00000021 ∧
    (s.pos = some .start → s.seq.xerr = false → s.errLatched = true →
      ∃ t, exec .getmode s = .next t ∧ Completed false t ∧ t.enc = s.enc ∧ t.err = s.err ∧ t.radio = s.radio
        ∧ DeviceFrame s t)
    ∧ (∀ (a : RadioAnswer) (rest : List RadioAnswer), s.pos = some .start → s.seq.xerr = false →
      s.errLatched = false → s.radio.answers = a :: rest →
      ∃ t, execN .getmode 2 s = .next t ∧ PortRan s t [.read s.params.profile.aOpmode a] rest
        ∧ t.enc.range = false ∧ DeviceFrame s t
        ∧ (∀ b, a = .ok b → t.enc.res = (modeOf s.params.profile b).setWidth 32 ∧ Completed false t ∧ t.err = s.err)
        ∧ (a = .fail → t.enc.res = 0 ∧ Completed true t ∧ LatchedAt .read s.params.profile.aOpmode t))

/-- R145: SET_FREQ. Gated, RES and RANGE are unchanged and nothing is sent; otherwise the three bytes of the word go out
MSB, MID, LSB, a failed write latches and the later writes are no-ops, and RES and RANGE are committed in every case. -/
def Obligations.SetFreqRun : Prop :=
  ∀ (s : State), encode .setFreq = 0x00000010 ∧
    (s.pos = some .start → s.seq.xerr = false → s.errLatched = true →
      ∃ t, exec .setFreq s = .next t ∧ Completed false t ∧ t.enc = s.enc ∧ t.err = s.err ∧ t.radio = s.radio
        ∧ DeviceFrame s t)
    ∧ (∀ (x y z : RadioAnswer) (rest : List RadioAnswer), s.pos = some .start → s.seq.xerr = false →
      s.errLatched = false → s.radio.answers = x :: y :: z :: rest →
      ∃ t raw, execN .setFreq 4 s = .next t
        ∧ raw = freqEncRaw s.operands.arg.toNat
        ∧ t.enc.res = BitVec.ofNat 32 raw ∧ t.enc.range = freqEncRange s.operands.arg.toNat ∧ DeviceFrame s t
        ∧ (∀ b c d, x = .ok b → y = .ok c → z = .ok d → Completed false t ∧ t.err = s.err
            ∧ PortRan s t
              [.write s.params.profile.aFrfLsb (BitVec.ofNat 8 raw) z,
               .write s.params.profile.aFrfMid (BitVec.ofNat 8 (raw / 2 ^ 8)) y,
               .write s.params.profile.aFrfMsb (BitVec.ofNat 8 (raw / 2 ^ 16)) x] rest)
        ∧ (∀ b c, x = .ok b → y = .ok c → z = .fail → Completed true t
            ∧ LatchedAt .write s.params.profile.aFrfLsb t
            ∧ PortRan s t
              [.write s.params.profile.aFrfLsb (BitVec.ofNat 8 raw) z,
               .write s.params.profile.aFrfMid (BitVec.ofNat 8 (raw / 2 ^ 8)) y,
               .write s.params.profile.aFrfMsb (BitVec.ofNat 8 (raw / 2 ^ 16)) x] rest)
        ∧ (∀ b, x = .ok b → y = .fail → Completed true t ∧ LatchedAt .write s.params.profile.aFrfMid t
            ∧ PortRan s t
              [.write s.params.profile.aFrfMid (BitVec.ofNat 8 (raw / 2 ^ 8)) y,
               .write s.params.profile.aFrfMsb (BitVec.ofNat 8 (raw / 2 ^ 16)) x] (z :: rest))
        ∧ (x = .fail → Completed true t ∧ LatchedAt .write s.params.profile.aFrfMsb t
            ∧ PortRan s t [.write s.params.profile.aFrfMsb (BitVec.ofNat 8 (raw / 2 ^ 16)) x] (y :: z :: rest)))

/-- R146: SET_BR. `bps` = 0 is fatal before the gate; gated, RES and RANGE are unchanged; otherwise the divider goes out
MSB, LSB, a failed write latches and the later write is a no-op, and RES and RANGE are committed. -/
def Obligations.SetBrRun : Prop :=
  ∀ (s : State), encode .setBr = 0x00000011 ∧
    (s.pos = some .start → s.operands.arg = 0 → ∃ t, exec .setBr s = .next t ∧ RaisedFatal .divzero 0x03 s t)
    ∧ (s.pos = some .start → s.operands.arg ≠ 0 → s.seq.xerr = false → s.errLatched = true →
      ∃ t, exec .setBr s = .next t ∧ Completed false t ∧ t.enc = s.enc ∧ t.err = s.err ∧ t.radio = s.radio
        ∧ DeviceFrame s t)
    ∧ (∀ (x y : RadioAnswer) (rest : List RadioAnswer), s.pos = some .start → s.operands.arg ≠ 0 →
      s.seq.xerr = false → s.errLatched = false → s.radio.answers = x :: y :: rest →
      ∃ t raw, execN .setBr 3 s = .next t
        ∧ raw = brEncRaw s.operands.arg.toNat
        ∧ t.enc.res = BitVec.ofNat 32 raw ∧ t.enc.range = brEncRange s.operands.arg.toNat ∧ DeviceFrame s t
        ∧ (∀ b c, x = .ok b → y = .ok c → Completed false t ∧ t.err = s.err
            ∧ PortRan s t
              [.write s.params.profile.aBitrateLsb (BitVec.ofNat 8 raw) y,
               .write s.params.profile.aBitrateMsb (BitVec.ofNat 8 (raw / 2 ^ 8)) x] rest)
        ∧ (∀ b, x = .ok b → y = .fail → Completed true t ∧ LatchedAt .write s.params.profile.aBitrateLsb t
            ∧ PortRan s t
              [.write s.params.profile.aBitrateLsb (BitVec.ofNat 8 raw) y,
               .write s.params.profile.aBitrateMsb (BitVec.ofNat 8 (raw / 2 ^ 8)) x] rest)
        ∧ (x = .fail → Completed true t ∧ LatchedAt .write s.params.profile.aBitrateMsb t
            ∧ PortRan s t [.write s.params.profile.aBitrateMsb (BitVec.ofNat 8 (raw / 2 ^ 8)) x] (y :: rest)))

/-- R147: SET_BW. Gated, RES and RANGE are unchanged; otherwise the whole byte, its bits 7:5 zero, is written once, and
RES and RANGE = 0 are committed, also when the write failed and latched. -/
def Obligations.SetBwRun : Prop :=
  ∀ (s : State), encode .setBw = 0x00000012 ∧
    (s.pos = some .start → s.seq.xerr = false → s.errLatched = true →
      ∃ t, exec .setBw s = .next t ∧ Completed false t ∧ t.enc = s.enc ∧ t.err = s.err ∧ t.radio = s.radio
        ∧ DeviceFrame s t)
    ∧ (∀ (x : RadioAnswer) (rest : List RadioAnswer), s.pos = some .start → s.seq.xerr = false →
      s.errLatched = false → s.radio.answers = x :: rest →
      ∃ t b, execN .setBw 2 s = .next t
        ∧ b = bwEncByte (bwSelect s.operands.arg.toNat) ∧ b.toNat < 32
        ∧ PortRan s t [.write s.params.profile.aRxbw b x] rest
        ∧ t.enc.res = b.setWidth 32 ∧ t.enc.range = false ∧ DeviceFrame s t
        ∧ (∀ c, x = .ok c → Completed false t ∧ t.err = s.err)
        ∧ (x = .fail → Completed true t ∧ LatchedAt .write s.params.profile.aRxbw t))

/-! ### Packet framing -/

/-- R173: a payload longer than MAX_PACKET is fatal OVERSIZE with FINFO = L in SEND and in SENDRECV, before the gate (so
with ERR = 1 too) and before any radio transaction. -/
def Obligations.OversizeFatalBeforeGate : Prop :=
  ∀ (s : State) (i : Instr), i = .send ∨ i = .sendrecv → s.pos = some .start →
    s.params.maxPacket < s.operands.txlen.toNat →
    ∃ t, exec i s = .next t ∧ RaisedFatal .oversize (s.operands.txlen.setWidth 32) s t

/-- R174, R191: gated, SEND makes no radio transaction, writes nothing and completes with XERR = 0; RECV and SENDRECV
make none either, commit the receive group of `RxNoOp`, and leave RXBUF and GLITCHCNT unchanged. -/
def Obligations.GatedFramerCommandsComplete : Prop :=
  ∀ s : State, s.pos = some .start → s.seq.xerr = false → s.errLatched = true →
    (s.operands.txlen.toNat ≤ s.params.maxPacket →
      ∃ t, exec .send s = .next t ∧ Completed false t ∧ t.enc = s.enc ∧ t.err = s.err ∧ t.radio = s.radio
        ∧ DeviceFrame s t)
    ∧ (∀ i, i = .recv ∨ (i = .sendrecv ∧ s.operands.txlen.toNat ≤ s.params.maxPacket) →
      ∃ t, exec i s = .next t ∧ Completed false t ∧ t.enc = s.enc ∧ t.err = s.err ∧ t.radio = s.radio
        ∧ t.fatal = s.fatal ∧ KeepsHostSide s t ∧ t.glitchCnt = s.glitchCnt
        ∧ (∀ a, memRead t.rxbuf a = memRead s.rxbuf a)
        ∧ t.rx = { rxlen := 0, rssi := 0, rssiRaw := 0, pkt := false, glitch := false, rxovf := false, rxtmo := false })

/-- R142, R172, R175 to R177, R181: a SEND of a frame that fits the FIFO, on a radio that is in Standby when asked,
fails no transaction, is back in Standby at the first completion poll and already reports the idle mode: the
transactions are exactly those of the spec, in its order, the burst is TXBUF[0..L) with the sentinel appended, and SEND
completes. -/
def Obligations.SendSingleBurstRun : Prop :=
  ∀ (s : State) (v1 b1 b2 b3 b4 v2 b5 v3 : Byte) (rest : List RadioAnswer),
    s.pos = some .start → s.errLatched = false → s.operands.txlen.toNat ≤ s.params.maxPacket →
    s.operands.txlen.toNat + 1 ≤ s.params.fifoDepth →
    s.radio.answers
      = .ok v1 :: .ok b1 :: .ok b2 :: .ok b3 :: .ok b4 :: .ok v2 :: .ok b5 :: .ok v3 :: rest →
    modeIs s.params.profile v1 1 = true → modeIs s.params.profile v2 1 = true →
    modeIs s.params.profile v3 (if (s.csrRead .cfg).getLsbD 8 then 1 else 0) = true →
    ∃ t, execN .send 9 s = .next t
      ∧ PortRan s t
          [.read s.params.profile.aOpmode (.ok v3),
           .write s.params.profile.aSeqConfig1 s.params.seqStop (.ok b5),
           .read s.params.profile.aOpmode (.ok v2),
           .burst s.params.profile.aFifo (memSlice s.txbuf 0 s.operands.txlen.toNat ++ [0]) (.ok b4),
           .write s.params.profile.aPayloadLength (BitVec.ofNat 8 (s.operands.txlen.toNat + 1)) (.ok b3),
           .write s.params.profile.aSeqConfig1 s.params.seqTxArm (.ok b2),
           .write s.params.profile.aIrqFlags2 s.params.profile.mFifoOverrun (.ok b1),
           .read s.params.profile.aOpmode (.ok v1)] rest
      ∧ Completed s.seq.xerr t ∧ t.err = { s.err with slot := .none } ∧ t.enc = s.enc ∧ DeviceFrame s t

/-- 42_packet_framing.md section 2, streaming: from the first burst on, whatever the radio answers and however many
refills it takes, the bytes of the bursts made so far are the first `sent` bytes of the frame in order; and when the
completion wait is reached with no error latched they are the whole frame. -/
def Obligations.SendStreamsFrameInOrder : Prop :=
  ∀ (n : Nat) (s t : State) (i : Instr), i = .send ∨ i = .sendrecv →
    s.pos = some (.send .first) → s.errLatched = false → s.seq.frame.length = s.seq.frameLen →
    execN i n s = .next t →
    (inRefill t.pos = true ∨ t.pos = some (.send .wait) ∨ t.pos = some (.send .stop)) →
    t.seq.frame = s.seq.frame
      ∧ burstBytes t.radio.log = burstBytes s.radio.log ++ s.seq.frame.take t.seq.sent
      ∧ (t.pos = some (.send .wait) → t.errLatched = false →
          burstBytes t.radio.log = burstBytes s.radio.log ++ s.seq.frame)

/-- 42_packet_framing.md section 2, streaming step by step: the first burst writes the first `min(N, FIFO_DEPTH)` bytes
of the frame, which then count as sent; a poll leads to a refill burst exactly when it reads FIFO_FULL = 0 and
FIFO_LEVEL = 0, and goes round otherwise, through `Sleep(PACE)` when PACE is not 0; a refill burst writes the next
`min(N - sent, FIFO_DEPTH - THRESH)` bytes, at least one; a burst that failed counts as sent too, latches, and ends the
loop. -/
def Obligations.SendRefillPacing : Prop :=
  ∀ (s : State) (i : Instr), i = .send ∨ i = .sendrecv → s.params.wf = true → s.errLatched = false →
    (∀ k, s.pos = some (.send .first) → k = min s.seq.frameLen s.params.fifoDepth →
      ∃ t, exec i s = .next t
        ∧ t.radio.log = .burst s.params.profile.aFifo (s.seq.frame.take k) s.nextAnswer :: s.radio.log
        ∧ t.seq.sent = k ∧ t.seq.frame = s.seq.frame ∧ t.seq.frameLen = s.seq.frameLen
        ∧ (∀ b, s.nextAnswer = .ok b → t.err = s.err ∧ t.pos = some (if k < s.seq.frameLen
            then (if s.operands.pace = 0 then .send .poll else .send .pace) else .send .wait))
        ∧ (s.nextAnswer = .fail → LatchedAt .burst s.params.profile.aFifo t ∧ t.seq.xerr = true
            ∧ t.pos = some (.send .wait)))
    ∧ (∀ f, s.pos = some (.send .poll) → s.nextAnswer = .ok f →
      ∃ t, exec i s = .next t
        ∧ t.radio.log = .read s.params.profile.aIrqFlags2 (.ok f) :: s.radio.log ∧ t.seq.sent = s.seq.sent
        ∧ t.pos = some
          (if flagSet f s.params.profile.mFifoFull = false ∧ flagSet f s.params.profile.mFifoLevel = false
            then .send .refill
            else if s.operands.pace = 0 then .send .poll else .send .pace))
    ∧ (s.pos = some (.send .pace) →
      ∃ t, exec i s = .next t ∧ t.radio.log = .sleep s.operands.pace.toNat :: s.radio.log
        ∧ t.radio.answers = s.radio.answers ∧ t.pos = some (.send .poll))
    ∧ (∀ k, s.pos = some (.send .refill) → s.seq.sent < s.seq.frameLen →
      k = min (s.seq.frameLen - s.seq.sent) (s.params.fifoDepth - s.operands.thresh.toNat) →
      1 ≤ k ∧ ∃ t, exec i s = .next t
        ∧ t.radio.log
            = .burst s.params.profile.aFifo ((s.seq.frame.drop s.seq.sent).take k) s.nextAnswer :: s.radio.log
        ∧ t.seq.sent = s.seq.sent + k ∧ t.seq.frame = s.seq.frame ∧ t.seq.frameLen = s.seq.frameLen
        ∧ (∀ b, s.nextAnswer = .ok b → t.err = s.err ∧ t.pos = some (if s.seq.sent + k < s.seq.frameLen
            then (if s.operands.pace = 0 then .send .poll else .send .pace) else .send .wait))
        ∧ (s.nextAnswer = .fail → LatchedAt .burst s.params.profile.aFifo t ∧ t.seq.xerr = true
            ∧ t.pos = some (.send .wait)))

/-- 42_packet_framing.md section 2, the no-overrun guarantee, as an invariant of one step over the number `c` of bytes in
the radio's FIFO: under E1 for FIFO_LEVEL the bytes a step bursts fit, and under E4 (the radio only removes bytes, so at
most `c + k` are there at the next step) and E5 (none before the first burst) what is known of `c` holds again. -/
def Obligations.SendNeverOverrunsFifo : Prop :=
  ∀ (s t : State) (i : Instr) (c : Nat), i = .send ∨ i = .sendrecv → s.params.wf = true →
    inSendBody s.pos = true → FifoRoom c s → (s.pos = some (.send .poll) → LevelFlagTrue c s) →
    exec i s = .next t →
    c + bytesBurst s t ≤ s.params.fifoDepth
      ∧ ∀ c', c' ≤ c + bytesBurst s t → (t.pos = some (.send .first) → c' = 0) → FifoRoom c' t

/-- R142, R182 to R185, R187 to R190: a RECV on a radio that is in Receiver mode when asked, fails no transaction,
answers any bytes but 0x00, at most RXBUF_SIZE of them, then the sentinel, and already reports the idle mode: the
transactions are exactly those of the set-up, the sample, the byte loop and the exit path, in that order, RXBUF holds
the bytes in order, every other byte of it is unchanged, and the receive group and GLITCHCNT are those of the packet
less one trailing glitch byte. -/
def Obligations.ReceiveDeliversPacket : Prop :=
  ∀ (s : State) (bytes : List Byte) (f b1 v1 b2 raw v2 b3 : Byte) (rest : List RadioAnswer),
    s.pos = some .start → s.errLatched = false → Memory.wf s.rxbuf = true →
    bytes.length ≤ s.params.rxbufSize → s.params.rxbufSize ≤ 1024 → (∀ b ∈ bytes, b ≠ 0) →
    flagSet f s.params.profile.mFifoEmpty = false →
    s.radio.answers = .ok b1 :: .ok v1 :: .ok b2 :: .ok raw
      :: (byteAnswers f (bytes ++ [0]) ++ .ok v2 :: .ok b3 :: rest) →
    modeIs s.params.profile v1 5 = true →
    modeIs s.params.profile v2 (if (s.csrRead .cfg).getLsbD 8 then 1 else 0) = true →
    ∃ t, execN .recv (2 * bytes.length + 9) s = .next t
      ∧ PortRan s t
          (.write s.params.profile.aIrqFlags2 s.params.profile.mFifoOverrun (.ok b3)
            :: .read s.params.profile.aOpmode (.ok v2)
            :: (byteReads s.params.profile f (bytes ++ [0])
              ++ [.read s.params.profile.aRssiValue (.ok raw),
                  .await s.operands.timeout.toNat (.ok b2),
                  .read s.params.profile.aOpmode (.ok v1),
                  .write s.params.profile.aPayloadLength 0 (.ok b1)])) rest
      ∧ Completed s.seq.xerr t ∧ t.err = { s.err with slot := .none } ∧ t.enc = s.enc ∧ t.fatal = s.fatal
      ∧ KeepsHostSide s t
      ∧ (∀ k, (hk : k < bytes.length) → memRead t.rxbuf k = bytes[k])
      ∧ (∀ k, bytes.length ≤ k → memRead t.rxbuf k = memRead s.rxbuf k)
      ∧ t.rx.pkt = true ∧ t.rx.rxlen.toNat = (delivered bytes).length
      ∧ t.rx.glitch = decide ((delivered bytes).length < bytes.length) ∧ t.rx.rxovf = false ∧ t.rx.rxtmo = false
      ∧ t.rx.rssiRaw = raw ∧ t.rx.rssi = rssiFn raw
      ∧ t.glitchCnt = (if (delivered bytes).length < bytes.length then s.glitchCnt + 1 else s.glitchCnt)

/-- R184 to R186: the RSSI sample is taken after the interrupt wait (0x00 and no transaction with ERR latched), and the
byte loop starts with `budget = TIMEOUT`, `n = 0`, `g = 0`, outcome ABORT; while the FIFO stays empty the loop sleeps
BYTETIME once for each BYTETIME begun of the budget, so `ceil(TIMEOUT / BYTETIME)` times from its start, and then ends
with the outcome TIMEOUT; with TIMEOUT = 0 at the first poll. -/
def Obligations.EmptyFifoTimesOut : Prop :=
  ∀ (s : State) (i : Instr), i = .recv ∨ i = .sendrecv →
    (s.pos = some (.recv .rssi) → ∃ t, exec i s = .next t ∧ t.pos = some (.recv .poll)
      ∧ t.seq.budget = s.operands.timeout.toNat ∧ t.seq.count = 0 ∧ t.seq.glitch = false ∧ t.seq.outcome = .abort
      ∧ t.rx = s.rx ∧ t.glitchCnt = s.glitchCnt ∧ t.rxbuf = s.rxbuf
      ∧ (s.errLatched = true → t.seq.raw = 0 ∧ t.radio = s.radio ∧ t.err = s.err)
      ∧ (∀ b, s.errLatched = false → s.nextAnswer = .ok b → t.seq.raw = b ∧ t.err = s.err
          ∧ t.radio.log = .read s.params.profile.aRssiValue (.ok b) :: s.radio.log)
      ∧ (s.errLatched = false → s.nextAnswer = .fail → t.seq.raw = 0 ∧ t.seq.xerr = true
          ∧ LatchedAt .read s.params.profile.aRssiValue t))
    ∧ (∀ (k : Nat) (raw f : Byte) (rest : List RadioAnswer),
      s.pos = some (.recv .rssi) → s.errLatched = false → s.operands.bytetime ≠ 0 →
      k = (s.operands.timeout.toNat + s.operands.bytetime.toNat - 1) / s.operands.bytetime.toNat →
      flagSet f s.params.profile.mFifoEmpty = true →
      s.radio.answers = .ok raw :: (List.replicate (k + 1) (.ok f) ++ rest) →
      ∃ t, execN i (2 * k + 2) s = .next t ∧ t.pos = some (.mode .recvSettle .enter) ∧ t.seq.outcome = .timeout
        ∧ t.seq.budget = 0 ∧ t.seq.count = 0 ∧ t.seq.glitch = false ∧ t.seq.raw = raw ∧ t.radio.answers = rest
        ∧ sleepCount t.radio.log = sleepCount s.radio.log + k
        ∧ (∀ a, memRead t.rxbuf a = memRead s.rxbuf a))
    ∧ ∀ (k : Nat) (f : Byte) (rest : List RadioAnswer),
      s.pos = some (.recv .poll) → s.errLatched = false → s.operands.bytetime ≠ 0 →
      k = (s.seq.budget + s.operands.bytetime.toNat - 1) / s.operands.bytetime.toNat →
      flagSet f s.params.profile.mFifoEmpty = true →
      s.radio.answers = List.replicate (k + 1) (.ok f) ++ rest →
      ∃ t, execN i (2 * k + 1) s = .next t ∧ t.pos = some (.mode .recvSettle .enter) ∧ t.seq.outcome = .timeout
        ∧ t.seq.budget = 0 ∧ t.seq.count = s.seq.count ∧ t.radio.answers = rest
        ∧ sleepCount t.radio.log = sleepCount s.radio.log + k
        ∧ (∀ a, memRead t.rxbuf a = memRead s.rxbuf a)

/-- 42_packet_framing.md section 3, empty FIFO: a poll that reads FIFO_EMPTY = 1 goes to a sleep of BYTETIME when budget
is left, which takes `BYTETIME` from it down to 0 at least, and otherwise ends the loop with TIMEOUT. -/
def Obligations.EmptyPollSpendsBudget : Prop :=
  ∀ (s : State) (i : Instr), i = .recv ∨ i = .sendrecv →
    (∀ f, s.pos = some (.recv .poll) → s.errLatched = false → s.nextAnswer = .ok f →
      flagSet f s.params.profile.mFifoEmpty = true →
      ∃ t, exec i s = .next t ∧ t.seq.budget = s.seq.budget ∧ t.rxbuf = s.rxbuf ∧ t.seq.count = s.seq.count
        ∧ (0 < s.seq.budget → t.pos = some (.recv .sleep) ∧ t.seq.outcome = s.seq.outcome)
        ∧ (s.seq.budget = 0 → t.pos = some (.mode .recvSettle .enter) ∧ t.seq.outcome = .timeout))
    ∧ (s.pos = some (.recv .sleep) →
      ∃ t, exec i s = .next t ∧ t.seq.budget = s.seq.budget - s.operands.bytetime.toNat
        ∧ t.radio.log = .sleep s.operands.bytetime.toNat :: s.radio.log ∧ t.pos = some (.recv .poll)
        ∧ t.rxbuf = s.rxbuf ∧ t.seq.count = s.seq.count ∧ t.seq.outcome = s.seq.outcome)

/-- R187: a poll that reads FIFO_EMPTY = 0 is followed by a read of A_FIFO; a non-zero byte goes to RXBUF[n] and `n` is
incremented, or, when RXBUF is full, is discarded and the loop ends with OVERFLOW; the budget is not touched. -/
def Obligations.ReceivedByteIsStored : Prop :=
  ∀ (s : State) (i : Instr) (b : Byte), i = .recv ∨ i = .sendrecv → s.errLatched = false → s.nextAnswer = .ok b →
    (s.pos = some (.recv .poll) → flagSet b s.params.profile.mFifoEmpty = false →
      ∃ t, exec i s = .next t ∧ t.pos = some (.recv .byte) ∧ t.seq.budget = s.seq.budget
        ∧ t.seq.count = s.seq.count ∧ t.rxbuf = s.rxbuf)
    ∧ (s.pos = some (.recv .byte) → b ≠ 0 → Memory.wf s.rxbuf = true →
      ∃ t, exec i s = .next t ∧ t.radio.log = .read s.params.profile.aFifo (.ok b) :: s.radio.log
        ∧ t.seq.budget = s.seq.budget
        ∧ (s.seq.count ≠ s.params.rxbufSize → t.pos = some (.recv .poll) ∧ t.seq.count = s.seq.count + 1
            ∧ t.seq.outcome = s.seq.outcome
            ∧ ∀ a, memRead t.rxbuf a = if a = s.seq.count then b else memRead s.rxbuf a)
        ∧ (s.seq.count = s.params.rxbufSize → t.pos = some (.mode .recvSettle .enter) ∧ t.seq.count = s.seq.count
            ∧ t.seq.outcome = .overflow ∧ ∀ a, memRead t.rxbuf a = memRead s.rxbuf a))

/-- R188: the sentinel ends the loop with the outcome PACKET; if RXBUF[n-1] is 0x80 or 0xC0 it is dropped: `n` falls by 1,
`g` is 1, and GLITCHCNT is incremented at once, modulo 2^32; at most one byte is dropped, and it stays in RXBUF. -/
def Obligations.SentinelDropsOneGlitch : Prop :=
  ∀ (s : State) (i : Instr), i = .recv ∨ i = .sendrecv → s.errLatched = false → s.nextAnswer = .ok 0 →
    s.pos = some (.recv .byte) →
    ∃ t, exec i s = .next t ∧ t.pos = some (.mode .recvSettle .enter) ∧ t.seq.outcome = .packet
      ∧ (∀ a, memRead t.rxbuf a = memRead s.rxbuf a)
      ∧ (0 < s.seq.count ∧ (memRead s.rxbuf (s.seq.count - 1) = 0x80 ∨ memRead s.rxbuf (s.seq.count - 1) = 0xC0) →
          t.seq.count + 1 = s.seq.count ∧ t.seq.glitch = true
          ∧ t.glitchCnt.toNat = (s.glitchCnt.toNat + 1) % 2 ^ 32)
      ∧ (¬(0 < s.seq.count ∧ (memRead s.rxbuf (s.seq.count - 1) = 0x80 ∨ memRead s.rxbuf (s.seq.count - 1) = 0xC0)) →
          t.seq.count = s.seq.count ∧ t.seq.glitch = s.seq.glitch ∧ t.glitchCnt = s.glitchCnt)

/-- R190: what the completion of a receive commits, from the sample, the count, the glitch indicator and the outcome. -/
def Obligations.ReceiveResultCommitted : Prop :=
  ∀ (s : State) (i : Instr), i = .recv ∨ i = .sendrecv → s.pos = some .finish → s.seq.count < 2 ^ 32 →
    ∃ t, exec i s = .next t ∧ Completed s.seq.xerr t
      ∧ t.rx.rssiRaw = s.seq.raw ∧ t.rx.rssi = rssiFn s.seq.raw
      ∧ (t.rx.pkt = true ↔ s.seq.outcome = .packet)
      ∧ (s.seq.outcome = .packet → t.rx.rxlen.toNat = s.seq.count)
      ∧ (s.seq.outcome ≠ .packet → t.rx.rxlen = 0)
      ∧ t.rx.glitch = s.seq.glitch
      ∧ (t.rx.rxovf = true ↔ s.seq.outcome = .overflow) ∧ (t.rx.rxtmo = true ↔ s.seq.outcome = .timeout)
      ∧ t.enc = s.enc ∧ t.err = s.err ∧ t.radio = s.radio ∧ t.fatal = s.fatal ∧ t.glitchCnt = s.glitchCnt
      ∧ KeepsHostSide s t ∧ (∀ a, memRead t.rxbuf a = memRead s.rxbuf a)

/-- 70_reset_and_hazards.md section 3: "The RECV byte loop is bounded with no premise": whatever the radio answers, each
step of the loop leaves it or makes a number smaller, from any state of the loop with the count within RXBUF, a sleep with
budget, and BYTETIME not 0; and these conditions hold again. -/
def Obligations.ByteLoopMeasureFalls : Prop :=
  ∀ (s t : State) (i : Instr), i = .recv ∨ i = .sendrecv → inByteLoop s.pos = true →
    s.seq.count ≤ s.params.rxbufSize → (s.pos = some (.recv .sleep) → 0 < s.seq.budget) →
    s.operands.bytetime ≠ 0 → exec i s = .next t →
    t.pos = some (.mode .recvSettle .enter)
      ∨ (inByteLoop t.pos = true ∧ byteLoopMeasure t < byteLoopMeasure s ∧ t.seq.count ≤ t.params.rxbufSize
        ∧ (t.pos = some (.recv .sleep) → 0 < t.seq.budget) ∧ t.operands.bytetime ≠ 0)

/-- R192: a SENDRECV of a frame that fits the FIFO, with no transaction failing, on a radio that is in each awaited mode
when asked, with TIMEOUT = 0 and an empty FIFO: its transactions are exactly those of the send part and then of the
receive part, in order, and it completes with no packet and RXTMO = 1. -/
def Obligations.SendrecvRun : Prop :=
  ∀ (s : State) (v1 b1 b2 b3 b4 v2 b5 v3 b6 v4 b7 raw f v5 b8 : Byte) (rest : List RadioAnswer),
    s.pos = some .start → s.errLatched = false → s.operands.txlen.toNat ≤ s.params.maxPacket →
    s.operands.txlen.toNat + 1 ≤ s.params.fifoDepth → s.operands.timeout = 0 →
    s.radio.answers
      = .ok v1 :: .ok b1 :: .ok b2 :: .ok b3 :: .ok b4 :: .ok v2 :: .ok b5 :: .ok v3
        :: .ok b6 :: .ok v4 :: .ok b7 :: .ok raw :: .ok f :: .ok v5 :: .ok b8 :: rest →
    modeIs s.params.profile v1 1 = true → modeIs s.params.profile v2 1 = true →
    modeIs s.params.profile v3 (if (s.csrRead .cfg).getLsbD 8 then 1 else 0) = true →
    modeIs s.params.profile v4 5 = true → flagSet f s.params.profile.mFifoEmpty = true →
    modeIs s.params.profile v5 (if (s.csrRead .cfg).getLsbD 8 then 1 else 0) = true →
    ∃ t, execN .sendrecv 16 s = .next t
      ∧ PortRan s t
          [.write s.params.profile.aIrqFlags2 s.params.profile.mFifoOverrun (.ok b8),
           .read s.params.profile.aOpmode (.ok v5),
           .read s.params.profile.aIrqFlags2 (.ok f),
           .read s.params.profile.aRssiValue (.ok raw),
           .await 0 (.ok b7),
           .read s.params.profile.aOpmode (.ok v4),
           .write s.params.profile.aPayloadLength 0 (.ok b6),
           .read s.params.profile.aOpmode (.ok v3),
           .write s.params.profile.aSeqConfig1 s.params.seqStop (.ok b5),
           .read s.params.profile.aOpmode (.ok v2),
           .burst s.params.profile.aFifo (memSlice s.txbuf 0 s.operands.txlen.toNat ++ [0]) (.ok b4),
           .write s.params.profile.aPayloadLength (BitVec.ofNat 8 (s.operands.txlen.toNat + 1)) (.ok b3),
           .write s.params.profile.aSeqConfig1 s.params.seqTxArm (.ok b2),
           .write s.params.profile.aIrqFlags2 s.params.profile.mFifoOverrun (.ok b1),
           .read s.params.profile.aOpmode (.ok v1)] rest
      ∧ Completed s.seq.xerr t ∧ t.err = { s.err with slot := .none } ∧ t.enc = s.enc ∧ t.fatal = s.fatal
      ∧ KeepsHostSide s t ∧ t.glitchCnt = s.glitchCnt ∧ (∀ a, memRead t.rxbuf a = memRead s.rxbuf a)
      ∧ t.rx = { rxlen := 0, rssi := rssiFn raw, rssiRaw := raw, pkt := false, glitch := false, rxovf := false,
                 rxtmo := true }

/-- 42_packet_framing.md section 4: after its send part SENDRECV receives only if no error is latched; otherwise it
commits the receive group of `RxNoOp` and completes with no radio transaction. -/
def Obligations.SendrecvSkipsReceive : Prop :=
  ∀ s : State, s.pos = some .sent →
    (s.errLatched = true → ∃ t, exec .sendrecv s = .next t ∧ Completed s.seq.xerr t ∧ t.radio = s.radio
      ∧ t.err = s.err ∧ t.enc = s.enc ∧ t.glitchCnt = s.glitchCnt ∧ KeepsHostSide s t
      ∧ (∀ a, memRead t.rxbuf a = memRead s.rxbuf a)
      ∧ t.rx = { rxlen := 0, rssi := 0, rssiRaw := 0, pkt := false, glitch := false, rxovf := false, rxtmo := false })
    ∧ (s.errLatched = false → ∃ t, exec .sendrecv s = .next t ∧ t.pos = some (.mode .recvReceiver .enter)
      ∧ t.radio.log = .write s.params.profile.aPayloadLength 0 s.nextAnswer :: s.radio.log ∧ t.rx = s.rx
      ∧ t.flags = s.flags)

/-! ### The host side

A host access or reset is the head of the host's queue with no block turn left before it: `hostTurn`, the model's own form
of a host action (log 5). -/

/-- 10_state.md section 2, each register but CMD (a write to CMD is `CommandIssue`): a host write to the offset of a writable
register while BUSY = 0 sets that register's stored bits (BYTETIME never to 0) and changes nothing else, a write to the offset
of a read-only register changes nothing, and what each operand register then reads: its stored bits, the rest 0; and IE,
whatever BUSY is. -/
def Obligations.OperandReadback : Prop :=
  (∀ (s : State) (a v : Word) (off : Nat), s.params.wf = true → s.flags.busy = false →
    s.hostTurn = some (.write 32 a v) → accessOffset s.params 32 a = some off →
    (off = 0x018 → step s = .next { s.popHost with operands := { s.operands with arg := v } })
    ∧ (off = 0x020 → step s = .next { s.popHost with operands := { s.operands with txlen := v.setWidth 16 } })
    ∧ (off = 0x024 → step s = .next { s.popHost with operands := { s.operands with timeout := v } })
    ∧ (off = 0x034 → step s = .next
        { s.popHost with operands := { s.operands with thresh := v.setWidth 6, idle := v.getLsbD 8 } })
    ∧ (off = 0x038 → step s = .next { s.popHost with operands :=
        { s.operands with bytetime := if v &&& 0xFFFF = 0 then 1 else v.setWidth 16 } })
    ∧ (off = 0x03C → step s = .next { s.popHost with operands := { s.operands with pace := v.setWidth 16 } })
    ∧ (off = 0x040 → step s = .next { s.popHost with ie := ⟨v.getLsbD 0, v.getLsbD 1⟩ })
    ∧ (off = 0x004 → step s = .next { s.popHost with flags := { s.flags with
        done := s.flags.done && !v.getLsbD 1, cmdlost := s.flags.cmdlost && !v.getLsbD 10 } })
    ∧ (off ∈ [0x008, 0x00C, 0x010, 0x014, 0x01C, 0x028, 0x02C, 0x030, 0x044, 0x048, 0x04C] →
        step s = .next s.popHost))
  ∧ ∀ (s : State) (v : Word), s.flags.busy = false →
    (s.csrWrite .arg v).csrRead .arg = v ∧ (s.csrWrite .timeout v).csrRead .timeout = v
    ∧ (s.csrWrite .txlen v).csrRead .txlen = v &&& 0xFFFF
    ∧ (s.csrWrite .cfg v).csrRead .cfg = v &&& 0x13F
    ∧ (s.csrWrite .pace v).csrRead .pace = v &&& 0xFFFF
    ∧ ((s.csrWrite .bytetime v).csrRead .bytetime = if v &&& 0xFFFF = 0 then 1 else v &&& 0xFFFF)
    ∧ ∀ s' : State, (s'.csrWrite .ie v).csrRead .ie = v &&& 3

/-- R64: while BUSY = 1 a host write to an operand register or to TXBUF is ignored, writes to STATUS and IE take effect,
a write to CMD is dropped with CMDLOST; and no block step changes an operand register or a byte of TXBUF, so every operand
a command reads is constant from its acceptance to its completion. -/
def Obligations.BusyHostWrites : Prop :=
  (∀ (s : State) (bits : Nat) (a v : Word) (off : Nat), s.params.wf = true → s.flags.busy = true →
    s.hostTurn = some (.write bits a v) → accessOffset s.params bits a = some off →
    ((∃ r ∈ [Csr.arg, Csr.txlen, Csr.timeout, Csr.cfg, Csr.bytetime, Csr.pace], off = r.offset)
        ∨ (0x1000 ≤ off ∧ off < 0x2000) → step s = .next s.popHost)
    ∧ (off = 0x004 → ∃ t, step s = .next t ∧ t.flags.done = (s.flags.done && !v.getLsbD 1)
        ∧ t.flags.cmdlost = (s.flags.cmdlost && !v.getLsbD 10) ∧ t.flags.busy = true)
    ∧ (off = 0x040 → ∃ t, step s = .next t ∧ t.ie = ⟨v.getLsbD 0, v.getLsbD 1⟩ ∧ t.flags = s.flags)
    ∧ (off = 0x000 → step s = .next { s.popHost with flags := { s.flags with cmdlost := true } }))
  ∧ ∀ (i : Instr) (s t : State), exec i s = .next t →
      t.operands = s.operands ∧ ∀ a, memRead t.txbuf a = memRead s.txbuf a

/-- R61: a host read of a reserved offset returns 0 and a write to one changes nothing; the reserved bits of the defined
registers read 0 and ignore writes. -/
def Obligations.ReservedReadsZero : Prop :=
  (∀ (s : State) (a v : Word) (off : Nat), s.params.wf = true → accessOffset s.params 32 a = some off →
    ((0x050 ≤ off ∧ off < 0x1000) ∨ (0x1000 + 4 * s.params.maxPacket ≤ off ∧ off < 0x2000)
      ∨ (0x2000 + 4 * s.params.rxbufSize ≤ off ∧ off < 0x3000) ∨ 0x3000 ≤ off) →
    (s.hostTurn = some (.read 32 a) → step s = .next (s.popHost.returnRead 0))
    ∧ (s.hostTurn = some (.write 32 a v) → step s = .next s.popHost))
  ∧ ∀ s : State, s.csrRead .status &&& 0xFFFFF800 = 0 ∧ s.csrRead .erraddr &&& 0xFFFFF880 = 0
      ∧ s.csrRead .txlen &&& 0xFFFF0000 = 0 ∧ s.csrRead .rssiraw &&& 0xFFFFFF00 = 0
      ∧ s.csrRead .cfg &&& 0xFFFFFEC0 = 0 ∧ s.csrRead .bytetime &&& 0xFFFF0000 = 0
      ∧ s.csrRead .pace &&& 0xFFFF0000 = 0 ∧ s.csrRead .ie &&& 0xFFFFFFFC = 0
      ∧ s.csrRead .param0 &&& 0xFFFE0000 = 0 ∧ s.csrRead .param1 &&& 0xFFFFF800 = 0
      ∧ ∀ v : Word, s.csrWrite .status v = s.csrWrite .status (v &&& 0x402)
        ∧ s.csrWrite .txlen v = s.csrWrite .txlen (v &&& 0xFFFF) ∧ s.csrWrite .cfg v = s.csrWrite .cfg (v &&& 0x13F)
        ∧ s.csrWrite .bytetime v = s.csrWrite .bytetime (v &&& 0xFFFF)
        ∧ s.csrWrite .pace v = s.csrWrite .pace (v &&& 0xFFFF) ∧ s.csrWrite .ie v = s.csrWrite .ie (v &&& 3)

/-- R60: a host access of another width than 32 bits, or at an address that is not a multiple of 4, is refused. -/
def Obligations.MisalignedAccessRefused : Prop :=
  ∀ (s : State) (bits : Nat) (a v : Word), s.params.wf = true → bits ≠ 32 ∨ a.toNat % 4 ≠ 0 →
    s.hostTurn = some (.read bits a) ∨ s.hostTurn = some (.write bits a v) → step s = .refused .hostAccess

/-- R22, R63, R65: an aligned 32-bit host read answers, returns the current value of what its offset names, and changes
nothing else; each register stands at its offset of R22 and reads its own piece of state (R23 to R44; the bits of STATUS
have their own statement), and each entry of the two buffers reads its byte (R45). -/
def Obligations.HostReadHasNoSideEffect : Prop :=
  (∀ (s : State) (a : Word), s.params.wf = true → s.params.base.toNat ≤ a.toNat →
    a.toNat < s.params.base.toNat + 0x4000 → a.toNat % 4 = 0 → s.hostTurn = some (.read 32 a) →
    ∃ t, step s = .next t
      ∧ t = { s with host := { queue := s.host.queue.tail
                               reads := s.windowRead (a.toNat - s.params.base.toNat) :: s.host.reads } })
  ∧ ∀ s : State, s.params.wf = true →
    s.windowRead 0x000 = 0 ∧ s.windowRead 0x004 = s.csrRead .status
    ∧ s.windowRead 0x008 = (match s.err.slot with | .none => 0 | .transport => 1)
    ∧ (s.windowRead 0x00C).toNat = s.err.addr.toNat
        + 256 * (match s.err.kind with
          | none => 0 | some .read => 1 | some .write => 2 | some .burst => 3 | some .await => 4)
    ∧ s.windowRead 0x010 = (match s.fatal.cause with
        | none => 0 | some .oversize => 1 | some .encoding => 2 | some .divzero => 3 | some .illegal => 4)
    ∧ s.windowRead 0x014 = s.fatal.info ∧ s.windowRead 0x018 = s.operands.arg ∧ s.windowRead 0x01C = s.enc.res
    ∧ (s.windowRead 0x020).toNat = s.operands.txlen.toNat ∧ s.windowRead 0x024 = s.operands.timeout
    ∧ s.windowRead 0x028 = s.rx.rxlen ∧ s.windowRead 0x02C = s.rx.rssi
    ∧ (s.windowRead 0x030).toNat = s.rx.rssiRaw.toNat
    ∧ (s.windowRead 0x034).toNat = s.operands.thresh.toNat + 256 * s.operands.idle.toNat
    ∧ (s.windowRead 0x038).toNat = s.operands.bytetime.toNat ∧ (s.windowRead 0x03C).toNat = s.operands.pace.toNat
    ∧ (s.windowRead 0x040).toNat = s.ie.doneIe.toNat + 2 * s.ie.fatalIe.toNat ∧ s.windowRead 0x044 = s.glitchCnt
    ∧ (s.windowRead 0x048).toNat
        = s.params.fifoDepth + 256 * s.params.maxPacket + 65536 * s.params.hasModeReady.toNat
    ∧ (s.windowRead 0x04C).toNat = s.params.rxbufSize
    ∧ (∀ k, k < s.params.maxPacket → s.windowRead (0x1000 + 4 * k) = (memRead s.txbuf k).setWidth 32)
    ∧ ∀ k, k < s.params.rxbufSize → s.windowRead (0x2000 + 4 * k) = (memRead s.rxbuf k).setWidth 32

/-- R96: a word written to CMD is dropped with CMDLOST, and nothing else changes, while FATAL = 1 or BUSY = 1; otherwise
it is accepted: BUSY = 1, DONE = 0, xerr = 0, and the phase is the start of that word's decode. (That acceptance keeps
the other hidden state is the model's choice, log 25.) -/
def Obligations.CommandIssue : Prop :=
  ∀ (s : State) (a w : Word), s.params.wf = true → accessOffset s.params 32 a = some 0 →
    s.hostTurn = some (.write 32 a w) →
    (s.fatal.fatal = true ∨ s.flags.busy = true →
      step s = .next { s.popHost with flags := { s.flags with cmdlost := true } })
    ∧ (s.fatal.fatal = false → s.flags.busy = false →
      ∃ t, step s = .next t ∧ t.flags = { s.flags with busy := true, done := false }
        ∧ t.seq = { s.seq with xerr := false, phase := .running w .start }
        ∧ t = { s with flags := t.flags, seq := t.seq, host := s.popHost.host })

/-- 10_state.md section 5: a host write to TXBUF[i] while BUSY = 0 stores bits 7:0 there and changes no other byte; a read
returns the byte with bits 31:8 zero; a host write to RXBUF changes nothing. -/
def Obligations.BufferHostAccess : Prop :=
  ∀ (s : State) (i : Nat) (a v : Word), s.params.wf = true →
    (i < s.params.maxPacket → s.flags.busy = false → Memory.wf s.txbuf = true →
      accessOffset s.params 32 a = some (0x1000 + 4 * i) → s.hostTurn = some (.write 32 a v) →
      ∃ t, step s = .next t ∧ t = { s.popHost with txbuf := t.txbuf }
        ∧ (∀ j, memRead t.txbuf j = if j = i then v.setWidth 8 else memRead s.txbuf j)
        ∧ t.targetRead (targetOf s.params (0x1000 + 4 * i)) = v &&& 0xFF)
    ∧ (i < s.params.rxbufSize → accessOffset s.params 32 a = some (0x2000 + 4 * i) →
      (s.hostTurn = some (.write 32 a v) → step s = .next s.popHost)
      ∧ s.targetRead (targetOf s.params (0x2000 + 4 * i)) = (memRead s.rxbuf i).setWidth 32)

/-- R24, R216: each of the eleven bits of STATUS reads its piece of state, ERRL the level ERR != 0; the host interrupt is
the level (DONE & DONE_IE) | (FATAL & FATAL_IE), in the bits a host reads in STATUS and IE; a host write of 1 to STATUS
bit 1 clears the DONE term and leaves the FATAL term. -/
def Obligations.StatusBitsAndIrqLevel : Prop :=
  ∀ s : State,
    ((s.csrRead .status).getLsbD 0 = s.flags.busy ∧ (s.csrRead .status).getLsbD 1 = s.flags.done
      ∧ (s.csrRead .status).getLsbD 2 = s.fatal.fatal
      ∧ ((s.csrRead .status).getLsbD 3 = true ↔ s.csrRead .err ≠ 0)
      ∧ (s.csrRead .status).getLsbD 4 = s.rx.pkt ∧ (s.csrRead .status).getLsbD 5 = s.rx.glitch
      ∧ (s.csrRead .status).getLsbD 6 = s.enc.range ∧ (s.csrRead .status).getLsbD 7 = s.rx.rxovf
      ∧ (s.csrRead .status).getLsbD 8 = s.rx.rxtmo ∧ (s.csrRead .status).getLsbD 9 = s.flags.xerr
      ∧ (s.csrRead .status).getLsbD 10 = s.flags.cmdlost)
    ∧ irq s = (((s.csrRead .status).getLsbD 1 && (s.csrRead .ie).getLsbD 0)
      || ((s.csrRead .status).getLsbD 2 && (s.csrRead .ie).getLsbD 1))
    ∧ ∀ v : Word, v.getLsbD 1 = true → irq (s.csrWrite .status v) = (s.fatal.fatal && s.ie.fatalIe)

/-- R240: block reset from any state, running or not, is one step to the table's values: every register, every byte of
both buffers, phase idle, xerr 0, IRQ 0. It makes no radio transaction. -/
def Obligations.BlockResetValues : Prop :=
  ∀ s : State, s.params.wf = true → s.hostTurn = some .reset →
    ∃ t, step s = .next t ∧ t.params = s.params ∧ t.radio = s.radio
      ∧ t.csrRead .cmd = 0 ∧ t.csrRead .status = 0 ∧ t.csrRead .err = 0 ∧ t.csrRead .erraddr = 0
      ∧ t.csrRead .fcause = 0 ∧ t.csrRead .finfo = 0 ∧ t.csrRead .arg = 0 ∧ t.csrRead .res = 0
      ∧ t.csrRead .txlen = 0 ∧ t.csrRead .timeout = 0 ∧ t.csrRead .rxlen = 0 ∧ t.csrRead .rssi = 0
      ∧ t.csrRead .rssiraw = 0 ∧ t.csrRead .cfg = 0x0000000F ∧ t.csrRead .bytetime = 500 ∧ t.csrRead .pace = 0
      ∧ t.csrRead .ie = 0 ∧ t.csrRead .glitchcnt = 0
      ∧ (∀ r, r = Csr.param0 ∨ r = Csr.param1 → t.csrRead r = s.csrRead r)
      ∧ (∀ a, memRead t.txbuf a = 0 ∧ memRead t.rxbuf a = 0)
      ∧ t.seq.phase = .idle ∧ t.seq.xerr = false ∧ irq t = false

/-! ### Whole-machine rules -/

/-- 10_state.md and 20_memory.md: no block step of any command changes an operand register, IE, CMDLOST, a byte of TXBUF,
the parameters or the host's port. -/
def Obligations.BlockStepKeepsHostSide : Prop :=
  ∀ (i : Instr) (s t : State), exec i s = .next t → KeepsHostSide s t

/-- 10_state.md section 2, 20_memory.md section 1 and 30_encoding.md section 2. By command: the encode group is written only
by the numeric, SET and GETMODE commands, the receive group, RXBUF and GLITCHCNT only by RECV and SENDRECV, XERR only by
device commands. By step: one that leaves the command running leaves the encode and the receive group, STATUS and FATAL as
they were; GLITCHCNT changes only in the step that reads the sentinel; a byte of RXBUF changes only in the step that reads a
non-zero byte, and only at `n`; ERR and ERRADDR change, and hidden xerr with them, only in a step whose own transaction
failed, which they then record, or ERR alone, to 0, in the first step of a `SetMode`. -/
def Obligations.GroupsHaveTheirWriters : Prop :=
  ∀ (i : Instr) (s t : State), exec i s = .next t →
    (i = .nop ∨ (∃ m, i = .setmode m) ∨ i = .send ∨ i = .recv ∨ i = .sendrecv → t.enc = s.enc)
    ∧ (i ≠ .recv → i ≠ .sendrecv → KeepsReceiveSide s t)
    ∧ (i.commandClass = .pureCommand → t.flags.xerr = s.flags.xerr ∧ t.radio = s.radio ∧ t.err = s.err)
    ∧ (t.seq.phase ≠ .idle → t.enc = s.enc ∧ t.rx = s.rx ∧ t.flags = s.flags ∧ t.fatal = s.fatal)
    ∧ (t.glitchCnt ≠ s.glitchCnt → s.pos = some (.recv .byte) ∧ s.errLatched = false ∧ s.nextAnswer = .ok 0)
    ∧ (∀ a, memRead t.rxbuf a ≠ memRead s.rxbuf a → s.pos = some (.recv .byte) ∧ a = s.seq.count
        ∧ s.errLatched = false ∧ ∃ b, b ≠ 0 ∧ s.nextAnswer = .ok b)
    ∧ ((t.err = s.err ∧ t.seq.xerr = s.seq.xerr)
        ∨ (LatchesFailure s t ∧ (s.errLatched = false ∨ FirstOfSetMode i s))
        ∨ (FirstOfSetMode i s ∧ t.err = { s.err with slot := .none } ∧ t.seq.xerr = s.seq.xerr))

/-- 60_exceptions.md section 3: a block step that raises a fatal fault leaves every group, ERR, XERR, DONE and the buffers
as they were, makes no radio transaction, ends the command, and shows in FCAUSE the code 1 to 4 of its cause and in FINFO
its information word; any other block step leaves FATAL, FCAUSE and FINFO. -/
def Obligations.FatalFaultIsPrecise : Prop :=
  ∀ (i : Instr) (s t : State), exec i s = .next t →
    t.fatal = s.fatal ∨ ∃ c v, RaisedFatal c v s t ∧ t.csrRead .finfo = v
      ∧ (c = .oversize → t.csrRead .fcause = 1) ∧ (c = .encoding → t.csrRead .fcause = 2)
      ∧ (c = .divzero → t.csrRead .fcause = 3) ∧ (c = .illegal → t.csrRead .fcause = 4)

/-- 20_memory.md section 2 and 60_exceptions.md section 2: one block step makes at most one radio transaction; a failed
one latches in the same step ERR = 1, ERRADDR = (kind << 8) | address with kinds 1 to 4, and xerr = 1; and none is made
while ERR != 0, unless the step is the first of a `SetMode`, which clears ERR (SETMODE's start is one). -/
def Obligations.LatchedErrorBlocksTransactions : Prop :=
  ∀ (i : Instr) (s t : State), exec i s = .next t →
    (t.radio.drawn = s.radio.drawn ∨ t.radio.drawn = s.radio.drawn + 1)
    ∧ (∀ x k a, t.radio.log = x :: s.radio.log → failedTxn x = some (k, a) →
        t.csrRead .err = 1 ∧ t.seq.xerr = true
        ∧ (t.csrRead .erraddr).toNat
            = a.toNat + 256 * (match k with | .read => 1 | .write => 2 | .burst => 3 | .await => 4))
    ∧ (s.errLatched = true → (∀ c, s.pos ≠ some (.mode c .enter)) →
        (s.pos = some .start → ∀ m, i ≠ .setmode m) →
        t.radio.drawn = s.radio.drawn ∧ t.radio.answers = s.radio.answers ∧ t.err = s.err)

/-- 10_state.md (ERR, FCAUSE, FINFO): ERR falls from 1 to 0 only in a step of the block that is the first of a
`SetMode`, or in a block reset; FATAL, FCAUSE and FINFO, once set, change only in a block reset. -/
def Obligations.OnlyResetOrTransitionClears : Prop :=
  ∀ s t : State, PhaseCoherent s → StatusCoherent s → step s = .next t → s.hostTurn ≠ some .reset →
    (s.errLatched = true → t.errLatched = false →
      s.hostTurn = none ∧ ((∃ c, s.pos = some (.mode c .enter))
        ∨ ∃ w m, s.seq.phase = .running w .start ∧ decode w = .ok (.setmode m)))
    ∧ (s.fatal.fatal = true → t.fatal = s.fatal)

/-! ### The invariant -/

/-- The reset state of every instance meets the invariant. Its clauses on the receive count and the glitch indicator speak
of hidden state that R46 and R240 leave undefined at reset: that they hold there is the model's choice (log 9), no rule of
the spec. -/
def Obligations.ResetMeetsInvariant : Prop :=
  Inv State.reset ∧ ∀ p : Params, Inv (State.resetOf p)

/-- Every step, the host's or the block's, keeps the invariant: canonical buffers within their sizes, status bits that
agree with the phase, a position of the running command, hidden state the rules may rely on, a legal receive group. That
its clauses on the receive count and the glitch indicator hold also while BUSY = 0 and until a receive sets them, where R46
leaves hidden state undefined, is the model's choice: a completion, a fatal abort, an idle turn and an acceptance keep
hidden state (log 25), and block reset gives it log 9's values (log 19). -/
def Obligations.StepKeepsInvariant : Prop :=
  ∀ s t : State, Inv s → step s = .next t → Inv t

/-- Every step of every well-formed command, at each position of it, answers a next state, whatever else the state holds;
and with the invariant a step never faults, and is refused only for a host access outside R60 or outside the window (log
13), or for parameters outside the spec: FIFO_DEPTH not 64 or 66, MAX_PACKET not 1 to 254 or RXBUF_SIZE not MAX_PACKET to
1024 (R8, R9), BASE no multiple of 0x4000 (R78), or M_MODE not three adjacent bits, which is DEDUCED from R40 (log 12).
Everything else goes on. The invariant's clauses on hidden state while BUSY = 0 are the model's choice (logs 9, 19 and
25). -/
def Obligations.InvariantStatesGoOn : Prop :=
  (∀ (i : Instr) (s : State) (p : Pos), WellFormed i → s.pos = some p → p.belongs i = true →
      ∃ t, exec i s = .next t)
    ∧ ∀ s : State, Inv s → s.params.wf = true →
      (∀ bits a v, s.hostTurn = some (.read bits a) ∨ s.hostTurn = some (.write bits a v) →
        (accessOffset s.params bits a).isSome = true) →
      SafeStep s
end

