-- ==== Sys2Proof/Laws/State.lean ====
section
/-! SUPPORT. One lemma per field per named update of State, true by rfl: what the update leaves and what it sets. -/

namespace Sys2Proof.Machine

variable (s : State)

/-! ### goto -/

@[simp] theorem goto_params (p : Pos) : (s.goto p).params = s.params := rfl
@[simp] theorem goto_flags (p : Pos) : (s.goto p).flags = s.flags := rfl
@[simp] theorem goto_fatal (p : Pos) : (s.goto p).fatal = s.fatal := rfl
@[simp] theorem goto_err (p : Pos) : (s.goto p).err = s.err := rfl
@[simp] theorem goto_operands (p : Pos) : (s.goto p).operands = s.operands := rfl
@[simp] theorem goto_ie (p : Pos) : (s.goto p).ie = s.ie := rfl
@[simp] theorem goto_enc (p : Pos) : (s.goto p).enc = s.enc := rfl
@[simp] theorem goto_rx (p : Pos) : (s.goto p).rx = s.rx := rfl
@[simp] theorem goto_glitchCnt (p : Pos) : (s.goto p).glitchCnt = s.glitchCnt := rfl
@[simp] theorem goto_txbuf (p : Pos) : (s.goto p).txbuf = s.txbuf := rfl
@[simp] theorem goto_rxbuf (p : Pos) : (s.goto p).rxbuf = s.rxbuf := rfl
@[simp] theorem goto_radio (p : Pos) : (s.goto p).radio = s.radio := rfl
@[simp] theorem goto_host (p : Pos) : (s.goto p).host = s.host := rfl
@[simp] theorem goto_seq_phase (p : Pos) : (s.goto p).seq.phase = s.seq.phase.move p := rfl
@[simp] theorem goto_seq_frame (p : Pos) : (s.goto p).seq.frame = s.seq.frame := rfl
@[simp] theorem goto_seq_frameLen (p : Pos) : (s.goto p).seq.frameLen = s.seq.frameLen := rfl
@[simp] theorem goto_seq_sent (p : Pos) : (s.goto p).seq.sent = s.seq.sent := rfl
@[simp] theorem goto_seq_budget (p : Pos) : (s.goto p).seq.budget = s.seq.budget := rfl
@[simp] theorem goto_seq_count (p : Pos) : (s.goto p).seq.count = s.seq.count := rfl
@[simp] theorem goto_seq_outcome (p : Pos) : (s.goto p).seq.outcome = s.seq.outcome := rfl
@[simp] theorem goto_seq_xerr (p : Pos) : (s.goto p).seq.xerr = s.seq.xerr := rfl
@[simp] theorem goto_seq_raw (p : Pos) : (s.goto p).seq.raw = s.seq.raw := rfl
@[simp] theorem goto_seq_glitch (p : Pos) : (s.goto p).seq.glitch = s.seq.glitch := rfl
@[simp] theorem goto_seq_len (p : Pos) : (s.goto p).seq.len = s.seq.len := rfl
@[simp] theorem goto_seq_opmode (p : Pos) : (s.goto p).seq.opmode = s.seq.opmode := rfl

/-! ### transact -/

@[simp] theorem transact_params (x : Txn) : (s.transact x).params = s.params := rfl
@[simp] theorem transact_flags (x : Txn) : (s.transact x).flags = s.flags := rfl
@[simp] theorem transact_fatal (x : Txn) : (s.transact x).fatal = s.fatal := rfl
@[simp] theorem transact_err (x : Txn) : (s.transact x).err = s.err := rfl
@[simp] theorem transact_operands (x : Txn) : (s.transact x).operands = s.operands := rfl
@[simp] theorem transact_ie (x : Txn) : (s.transact x).ie = s.ie := rfl
@[simp] theorem transact_enc (x : Txn) : (s.transact x).enc = s.enc := rfl
@[simp] theorem transact_rx (x : Txn) : (s.transact x).rx = s.rx := rfl
@[simp] theorem transact_glitchCnt (x : Txn) : (s.transact x).glitchCnt = s.glitchCnt := rfl
@[simp] theorem transact_txbuf (x : Txn) : (s.transact x).txbuf = s.txbuf := rfl
@[simp] theorem transact_rxbuf (x : Txn) : (s.transact x).rxbuf = s.rxbuf := rfl
@[simp] theorem transact_seq (x : Txn) : (s.transact x).seq = s.seq := rfl
@[simp] theorem transact_host (x : Txn) : (s.transact x).host = s.host := rfl
@[simp] theorem transact_radio_answers (x : Txn) : (s.transact x).radio.answers = s.radio.answers.tail := rfl
@[simp] theorem transact_radio_drawn (x : Txn) : (s.transact x).radio.drawn = s.radio.drawn + 1 := rfl
@[simp] theorem transact_radio_log (x : Txn) : (s.transact x).radio.log = x :: s.radio.log := rfl

/-! ### latchTransport -/

@[simp] theorem latchTransport_params (a : RegAddr) (k : TxnKind) : (s.latchTransport a k).params = s.params := rfl
@[simp] theorem latchTransport_flags (a : RegAddr) (k : TxnKind) : (s.latchTransport a k).flags = s.flags := rfl
@[simp] theorem latchTransport_fatal (a : RegAddr) (k : TxnKind) : (s.latchTransport a k).fatal = s.fatal := rfl
@[simp] theorem latchTransport_operands (a : RegAddr) (k : TxnKind) : (s.latchTransport a k).operands = s.operands := rfl
@[simp] theorem latchTransport_ie (a : RegAddr) (k : TxnKind) : (s.latchTransport a k).ie = s.ie := rfl
@[simp] theorem latchTransport_enc (a : RegAddr) (k : TxnKind) : (s.latchTransport a k).enc = s.enc := rfl
@[simp] theorem latchTransport_rx (a : RegAddr) (k : TxnKind) : (s.latchTransport a k).rx = s.rx := rfl
@[simp] theorem latchTransport_glitchCnt (a : RegAddr) (k : TxnKind) : (s.latchTransport a k).glitchCnt = s.glitchCnt := rfl
@[simp] theorem latchTransport_txbuf (a : RegAddr) (k : TxnKind) : (s.latchTransport a k).txbuf = s.txbuf := rfl
@[simp] theorem latchTransport_rxbuf (a : RegAddr) (k : TxnKind) : (s.latchTransport a k).rxbuf = s.rxbuf := rfl
@[simp] theorem latchTransport_radio (a : RegAddr) (k : TxnKind) : (s.latchTransport a k).radio = s.radio := rfl
@[simp] theorem latchTransport_host (a : RegAddr) (k : TxnKind) : (s.latchTransport a k).host = s.host := rfl
@[simp] theorem latchTransport_seq_phase (a : RegAddr) (k : TxnKind) : (s.latchTransport a k).seq.phase = s.seq.phase := rfl
@[simp] theorem latchTransport_seq_frame (a : RegAddr) (k : TxnKind) : (s.latchTransport a k).seq.frame = s.seq.frame := rfl
@[simp] theorem latchTransport_seq_frameLen (a : RegAddr) (k : TxnKind) : (s.latchTransport a k).seq.frameLen = s.seq.frameLen := rfl
@[simp] theorem latchTransport_seq_sent (a : RegAddr) (k : TxnKind) : (s.latchTransport a k).seq.sent = s.seq.sent := rfl
@[simp] theorem latchTransport_seq_budget (a : RegAddr) (k : TxnKind) : (s.latchTransport a k).seq.budget = s.seq.budget := rfl
@[simp] theorem latchTransport_seq_count (a : RegAddr) (k : TxnKind) : (s.latchTransport a k).seq.count = s.seq.count := rfl
@[simp] theorem latchTransport_seq_outcome (a : RegAddr) (k : TxnKind) : (s.latchTransport a k).seq.outcome = s.seq.outcome := rfl
@[simp] theorem latchTransport_seq_xerr (a : RegAddr) (k : TxnKind) : (s.latchTransport a k).seq.xerr = true := rfl
@[simp] theorem latchTransport_seq_raw (a : RegAddr) (k : TxnKind) : (s.latchTransport a k).seq.raw = s.seq.raw := rfl
@[simp] theorem latchTransport_seq_glitch (a : RegAddr) (k : TxnKind) : (s.latchTransport a k).seq.glitch = s.seq.glitch := rfl
@[simp] theorem latchTransport_seq_len (a : RegAddr) (k : TxnKind) : (s.latchTransport a k).seq.len = s.seq.len := rfl
@[simp] theorem latchTransport_seq_opmode (a : RegAddr) (k : TxnKind) : (s.latchTransport a k).seq.opmode = s.seq.opmode := rfl
@[simp] theorem latchTransport_err_slot (a : RegAddr) (k : TxnKind) : (s.latchTransport a k).err.slot = .transport := rfl
@[simp] theorem latchTransport_err_kind (a : RegAddr) (k : TxnKind) : (s.latchTransport a k).err.kind = some k := rfl
@[simp] theorem latchTransport_err_addr (a : RegAddr) (k : TxnKind) : (s.latchTransport a k).err.addr = a := rfl

/-! ### sleep -/

@[simp] theorem sleep_params (us : Nat) : (sleep us s).params = s.params := rfl
@[simp] theorem sleep_flags (us : Nat) : (sleep us s).flags = s.flags := rfl
@[simp] theorem sleep_fatal (us : Nat) : (sleep us s).fatal = s.fatal := rfl
@[simp] theorem sleep_err (us : Nat) : (sleep us s).err = s.err := rfl
@[simp] theorem sleep_operands (us : Nat) : (sleep us s).operands = s.operands := rfl
@[simp] theorem sleep_ie (us : Nat) : (sleep us s).ie = s.ie := rfl
@[simp] theorem sleep_enc (us : Nat) : (sleep us s).enc = s.enc := rfl
@[simp] theorem sleep_rx (us : Nat) : (sleep us s).rx = s.rx := rfl
@[simp] theorem sleep_glitchCnt (us : Nat) : (sleep us s).glitchCnt = s.glitchCnt := rfl
@[simp] theorem sleep_txbuf (us : Nat) : (sleep us s).txbuf = s.txbuf := rfl
@[simp] theorem sleep_rxbuf (us : Nat) : (sleep us s).rxbuf = s.rxbuf := rfl
@[simp] theorem sleep_seq (us : Nat) : (sleep us s).seq = s.seq := rfl
@[simp] theorem sleep_host (us : Nat) : (sleep us s).host = s.host := rfl
@[simp] theorem sleep_radio_answers (us : Nat) : (sleep us s).radio.answers = s.radio.answers := rfl
@[simp] theorem sleep_radio_drawn (us : Nat) : (sleep us s).radio.drawn = s.radio.drawn := rfl
@[simp] theorem sleep_radio_log (us : Nat) : (sleep us s).radio.log = .sleep us :: s.radio.log := rfl

/-! ### accept -/

@[simp] theorem accept_params (w : Word) : (s.accept w).params = s.params := rfl
@[simp] theorem accept_fatal (w : Word) : (s.accept w).fatal = s.fatal := rfl
@[simp] theorem accept_err (w : Word) : (s.accept w).err = s.err := rfl
@[simp] theorem accept_operands (w : Word) : (s.accept w).operands = s.operands := rfl
@[simp] theorem accept_ie (w : Word) : (s.accept w).ie = s.ie := rfl
@[simp] theorem accept_enc (w : Word) : (s.accept w).enc = s.enc := rfl
@[simp] theorem accept_rx (w : Word) : (s.accept w).rx = s.rx := rfl
@[simp] theorem accept_glitchCnt (w : Word) : (s.accept w).glitchCnt = s.glitchCnt := rfl
@[simp] theorem accept_txbuf (w : Word) : (s.accept w).txbuf = s.txbuf := rfl
@[simp] theorem accept_rxbuf (w : Word) : (s.accept w).rxbuf = s.rxbuf := rfl
@[simp] theorem accept_radio (w : Word) : (s.accept w).radio = s.radio := rfl
@[simp] theorem accept_host (w : Word) : (s.accept w).host = s.host := rfl
@[simp] theorem accept_seq_phase (w : Word) : (s.accept w).seq.phase = .running w .start := rfl
@[simp] theorem accept_seq_frame (w : Word) : (s.accept w).seq.frame = s.seq.frame := rfl
@[simp] theorem accept_seq_frameLen (w : Word) : (s.accept w).seq.frameLen = s.seq.frameLen := rfl
@[simp] theorem accept_seq_sent (w : Word) : (s.accept w).seq.sent = s.seq.sent := rfl
@[simp] theorem accept_seq_budget (w : Word) : (s.accept w).seq.budget = s.seq.budget := rfl
@[simp] theorem accept_seq_count (w : Word) : (s.accept w).seq.count = s.seq.count := rfl
@[simp] theorem accept_seq_outcome (w : Word) : (s.accept w).seq.outcome = s.seq.outcome := rfl
@[simp] theorem accept_seq_xerr (w : Word) : (s.accept w).seq.xerr = false := rfl
@[simp] theorem accept_seq_raw (w : Word) : (s.accept w).seq.raw = s.seq.raw := rfl
@[simp] theorem accept_seq_glitch (w : Word) : (s.accept w).seq.glitch = s.seq.glitch := rfl
@[simp] theorem accept_seq_len (w : Word) : (s.accept w).seq.len = s.seq.len := rfl
@[simp] theorem accept_seq_opmode (w : Word) : (s.accept w).seq.opmode = s.seq.opmode := rfl
@[simp] theorem accept_flags_busy (w : Word) : (s.accept w).flags.busy = true := rfl
@[simp] theorem accept_flags_done (w : Word) : (s.accept w).flags.done = false := rfl
@[simp] theorem accept_flags_xerr (w : Word) : (s.accept w).flags.xerr = s.flags.xerr := rfl
@[simp] theorem accept_flags_cmdlost (w : Word) : (s.accept w).flags.cmdlost = s.flags.cmdlost := rfl

/-! ### dropCommand -/

@[simp] theorem dropCommand_params : (s.dropCommand).params = s.params := rfl
@[simp] theorem dropCommand_fatal : (s.dropCommand).fatal = s.fatal := rfl
@[simp] theorem dropCommand_err : (s.dropCommand).err = s.err := rfl
@[simp] theorem dropCommand_operands : (s.dropCommand).operands = s.operands := rfl
@[simp] theorem dropCommand_ie : (s.dropCommand).ie = s.ie := rfl
@[simp] theorem dropCommand_enc : (s.dropCommand).enc = s.enc := rfl
@[simp] theorem dropCommand_rx : (s.dropCommand).rx = s.rx := rfl
@[simp] theorem dropCommand_glitchCnt : (s.dropCommand).glitchCnt = s.glitchCnt := rfl
@[simp] theorem dropCommand_txbuf : (s.dropCommand).txbuf = s.txbuf := rfl
@[simp] theorem dropCommand_rxbuf : (s.dropCommand).rxbuf = s.rxbuf := rfl
@[simp] theorem dropCommand_seq : (s.dropCommand).seq = s.seq := rfl
@[simp] theorem dropCommand_radio : (s.dropCommand).radio = s.radio := rfl
@[simp] theorem dropCommand_host : (s.dropCommand).host = s.host := rfl
@[simp] theorem dropCommand_flags_busy : (s.dropCommand).flags.busy = s.flags.busy := rfl
@[simp] theorem dropCommand_flags_done : (s.dropCommand).flags.done = s.flags.done := rfl
@[simp] theorem dropCommand_flags_xerr : (s.dropCommand).flags.xerr = s.flags.xerr := rfl
@[simp] theorem dropCommand_flags_cmdlost : (s.dropCommand).flags.cmdlost = true := rfl

/-! ### raiseFatal -/

@[simp] theorem raiseFatal_params (c : FatalCause) (v : Word) : (s.raiseFatal c v).params = s.params := rfl
@[simp] theorem raiseFatal_err (c : FatalCause) (v : Word) : (s.raiseFatal c v).err = s.err := rfl
@[simp] theorem raiseFatal_operands (c : FatalCause) (v : Word) : (s.raiseFatal c v).operands = s.operands := rfl
@[simp] theorem raiseFatal_ie (c : FatalCause) (v : Word) : (s.raiseFatal c v).ie = s.ie := rfl
@[simp] theorem raiseFatal_enc (c : FatalCause) (v : Word) : (s.raiseFatal c v).enc = s.enc := rfl
@[simp] theorem raiseFatal_rx (c : FatalCause) (v : Word) : (s.raiseFatal c v).rx = s.rx := rfl
@[simp] theorem raiseFatal_glitchCnt (c : FatalCause) (v : Word) : (s.raiseFatal c v).glitchCnt = s.glitchCnt := rfl
@[simp] theorem raiseFatal_txbuf (c : FatalCause) (v : Word) : (s.raiseFatal c v).txbuf = s.txbuf := rfl
@[simp] theorem raiseFatal_rxbuf (c : FatalCause) (v : Word) : (s.raiseFatal c v).rxbuf = s.rxbuf := rfl
@[simp] theorem raiseFatal_radio (c : FatalCause) (v : Word) : (s.raiseFatal c v).radio = s.radio := rfl
@[simp] theorem raiseFatal_host (c : FatalCause) (v : Word) : (s.raiseFatal c v).host = s.host := rfl
@[simp] theorem raiseFatal_seq_phase (c : FatalCause) (v : Word) : (s.raiseFatal c v).seq.phase = .idle := rfl
@[simp] theorem raiseFatal_seq_frame (c : FatalCause) (v : Word) : (s.raiseFatal c v).seq.frame = s.seq.frame := rfl
@[simp] theorem raiseFatal_seq_frameLen (c : FatalCause) (v : Word) : (s.raiseFatal c v).seq.frameLen = s.seq.frameLen := rfl
@[simp] theorem raiseFatal_seq_sent (c : FatalCause) (v : Word) : (s.raiseFatal c v).seq.sent = s.seq.sent := rfl
@[simp] theorem raiseFatal_seq_budget (c : FatalCause) (v : Word) : (s.raiseFatal c v).seq.budget = s.seq.budget := rfl
@[simp] theorem raiseFatal_seq_count (c : FatalCause) (v : Word) : (s.raiseFatal c v).seq.count = s.seq.count := rfl
@[simp] theorem raiseFatal_seq_outcome (c : FatalCause) (v : Word) : (s.raiseFatal c v).seq.outcome = s.seq.outcome := rfl
@[simp] theorem raiseFatal_seq_xerr (c : FatalCause) (v : Word) : (s.raiseFatal c v).seq.xerr = s.seq.xerr := rfl
@[simp] theorem raiseFatal_seq_raw (c : FatalCause) (v : Word) : (s.raiseFatal c v).seq.raw = s.seq.raw := rfl
@[simp] theorem raiseFatal_seq_glitch (c : FatalCause) (v : Word) : (s.raiseFatal c v).seq.glitch = s.seq.glitch := rfl
@[simp] theorem raiseFatal_seq_len (c : FatalCause) (v : Word) : (s.raiseFatal c v).seq.len = s.seq.len := rfl
@[simp] theorem raiseFatal_seq_opmode (c : FatalCause) (v : Word) : (s.raiseFatal c v).seq.opmode = s.seq.opmode := rfl
@[simp] theorem raiseFatal_fatal_fatal (c : FatalCause) (v : Word) : (s.raiseFatal c v).fatal.fatal = true := rfl
@[simp] theorem raiseFatal_fatal_cause (c : FatalCause) (v : Word) : (s.raiseFatal c v).fatal.cause = some c := rfl
@[simp] theorem raiseFatal_fatal_info (c : FatalCause) (v : Word) : (s.raiseFatal c v).fatal.info = v := rfl
@[simp] theorem raiseFatal_flags_busy (c : FatalCause) (v : Word) : (s.raiseFatal c v).flags.busy = false := rfl
@[simp] theorem raiseFatal_flags_done (c : FatalCause) (v : Word) : (s.raiseFatal c v).flags.done = s.flags.done := rfl
@[simp] theorem raiseFatal_flags_xerr (c : FatalCause) (v : Word) : (s.raiseFatal c v).flags.xerr = s.flags.xerr := rfl
@[simp] theorem raiseFatal_flags_cmdlost (c : FatalCause) (v : Word) : (s.raiseFatal c v).flags.cmdlost = s.flags.cmdlost := rfl

/-! ### completePure -/

@[simp] theorem completePure_params : (s.completePure).params = s.params := rfl
@[simp] theorem completePure_fatal : (s.completePure).fatal = s.fatal := rfl
@[simp] theorem completePure_err : (s.completePure).err = s.err := rfl
@[simp] theorem completePure_operands : (s.completePure).operands = s.operands := rfl
@[simp] theorem completePure_ie : (s.completePure).ie = s.ie := rfl
@[simp] theorem completePure_enc : (s.completePure).enc = s.enc := rfl
@[simp] theorem completePure_rx : (s.completePure).rx = s.rx := rfl
@[simp] theorem completePure_glitchCnt : (s.completePure).glitchCnt = s.glitchCnt := rfl
@[simp] theorem completePure_txbuf : (s.completePure).txbuf = s.txbuf := rfl
@[simp] theorem completePure_rxbuf : (s.completePure).rxbuf = s.rxbuf := rfl
@[simp] theorem completePure_radio : (s.completePure).radio = s.radio := rfl
@[simp] theorem completePure_host : (s.completePure).host = s.host := rfl
@[simp] theorem completePure_seq_phase : (s.completePure).seq.phase = .idle := rfl
@[simp] theorem completePure_seq_frame : (s.completePure).seq.frame = s.seq.frame := rfl
@[simp] theorem completePure_seq_frameLen : (s.completePure).seq.frameLen = s.seq.frameLen := rfl
@[simp] theorem completePure_seq_sent : (s.completePure).seq.sent = s.seq.sent := rfl
@[simp] theorem completePure_seq_budget : (s.completePure).seq.budget = s.seq.budget := rfl
@[simp] theorem completePure_seq_count : (s.completePure).seq.count = s.seq.count := rfl
@[simp] theorem completePure_seq_outcome : (s.completePure).seq.outcome = s.seq.outcome := rfl
@[simp] theorem completePure_seq_xerr : (s.completePure).seq.xerr = s.seq.xerr := rfl
@[simp] theorem completePure_seq_raw : (s.completePure).seq.raw = s.seq.raw := rfl
@[simp] theorem completePure_seq_glitch : (s.completePure).seq.glitch = s.seq.glitch := rfl
@[simp] theorem completePure_seq_len : (s.completePure).seq.len = s.seq.len := rfl
@[simp] theorem completePure_seq_opmode : (s.completePure).seq.opmode = s.seq.opmode := rfl
@[simp] theorem completePure_flags_busy : (s.completePure).flags.busy = false := rfl
@[simp] theorem completePure_flags_done : (s.completePure).flags.done = true := rfl
@[simp] theorem completePure_flags_xerr : (s.completePure).flags.xerr = s.flags.xerr := rfl
@[simp] theorem completePure_flags_cmdlost : (s.completePure).flags.cmdlost = s.flags.cmdlost := rfl

/-! ### completeDevice -/

@[simp] theorem completeDevice_params : (s.completeDevice).params = s.params := rfl
@[simp] theorem completeDevice_fatal : (s.completeDevice).fatal = s.fatal := rfl
@[simp] theorem completeDevice_err : (s.completeDevice).err = s.err := rfl
@[simp] theorem completeDevice_operands : (s.completeDevice).operands = s.operands := rfl
@[simp] theorem completeDevice_ie : (s.completeDevice).ie = s.ie := rfl
@[simp] theorem completeDevice_enc : (s.completeDevice).enc = s.enc := rfl
@[simp] theorem completeDevice_rx : (s.completeDevice).rx = s.rx := rfl
@[simp] theorem completeDevice_glitchCnt : (s.completeDevice).glitchCnt = s.glitchCnt := rfl
@[simp] theorem completeDevice_txbuf : (s.completeDevice).txbuf = s.txbuf := rfl
@[simp] theorem completeDevice_rxbuf : (s.completeDevice).rxbuf = s.rxbuf := rfl
@[simp] theorem completeDevice_radio : (s.completeDevice).radio = s.radio := rfl
@[simp] theorem completeDevice_host : (s.completeDevice).host = s.host := rfl
@[simp] theorem completeDevice_seq_phase : (s.completeDevice).seq.phase = .idle := rfl
@[simp] theorem completeDevice_seq_frame : (s.completeDevice).seq.frame = s.seq.frame := rfl
@[simp] theorem completeDevice_seq_frameLen : (s.completeDevice).seq.frameLen = s.seq.frameLen := rfl
@[simp] theorem completeDevice_seq_sent : (s.completeDevice).seq.sent = s.seq.sent := rfl
@[simp] theorem completeDevice_seq_budget : (s.completeDevice).seq.budget = s.seq.budget := rfl
@[simp] theorem completeDevice_seq_count : (s.completeDevice).seq.count = s.seq.count := rfl
@[simp] theorem completeDevice_seq_outcome : (s.completeDevice).seq.outcome = s.seq.outcome := rfl
@[simp] theorem completeDevice_seq_xerr : (s.completeDevice).seq.xerr = s.seq.xerr := rfl
@[simp] theorem completeDevice_seq_raw : (s.completeDevice).seq.raw = s.seq.raw := rfl
@[simp] theorem completeDevice_seq_glitch : (s.completeDevice).seq.glitch = s.seq.glitch := rfl
@[simp] theorem completeDevice_seq_len : (s.completeDevice).seq.len = s.seq.len := rfl
@[simp] theorem completeDevice_seq_opmode : (s.completeDevice).seq.opmode = s.seq.opmode := rfl
@[simp] theorem completeDevice_flags_busy : (s.completeDevice).flags.busy = false := rfl
@[simp] theorem completeDevice_flags_done : (s.completeDevice).flags.done = true := rfl
@[simp] theorem completeDevice_flags_xerr : (s.completeDevice).flags.xerr = s.seq.xerr := rfl
@[simp] theorem completeDevice_flags_cmdlost : (s.completeDevice).flags.cmdlost = s.flags.cmdlost := rfl

/-! ### commitEncode -/

@[simp] theorem commitEncode_params (res : Word) (r : Bool) : (s.commitEncode res r).params = s.params := rfl
@[simp] theorem commitEncode_flags (res : Word) (r : Bool) : (s.commitEncode res r).flags = s.flags := rfl
@[simp] theorem commitEncode_fatal (res : Word) (r : Bool) : (s.commitEncode res r).fatal = s.fatal := rfl
@[simp] theorem commitEncode_err (res : Word) (r : Bool) : (s.commitEncode res r).err = s.err := rfl
@[simp] theorem commitEncode_operands (res : Word) (r : Bool) : (s.commitEncode res r).operands = s.operands := rfl
@[simp] theorem commitEncode_ie (res : Word) (r : Bool) : (s.commitEncode res r).ie = s.ie := rfl
@[simp] theorem commitEncode_rx (res : Word) (r : Bool) : (s.commitEncode res r).rx = s.rx := rfl
@[simp] theorem commitEncode_glitchCnt (res : Word) (r : Bool) : (s.commitEncode res r).glitchCnt = s.glitchCnt := rfl
@[simp] theorem commitEncode_txbuf (res : Word) (r : Bool) : (s.commitEncode res r).txbuf = s.txbuf := rfl
@[simp] theorem commitEncode_rxbuf (res : Word) (r : Bool) : (s.commitEncode res r).rxbuf = s.rxbuf := rfl
@[simp] theorem commitEncode_seq (res : Word) (r : Bool) : (s.commitEncode res r).seq = s.seq := rfl
@[simp] theorem commitEncode_radio (res : Word) (r : Bool) : (s.commitEncode res r).radio = s.radio := rfl
@[simp] theorem commitEncode_host (res : Word) (r : Bool) : (s.commitEncode res r).host = s.host := rfl
@[simp] theorem commitEncode_enc_res (res : Word) (r : Bool) : (s.commitEncode res r).enc.res = res := rfl
@[simp] theorem commitEncode_enc_range (res : Word) (r : Bool) : (s.commitEncode res r).enc.range = r := rfl

/-! ### commitReceive -/

@[simp] theorem commitReceive_params : (s.commitReceive).params = s.params := rfl
@[simp] theorem commitReceive_flags : (s.commitReceive).flags = s.flags := rfl
@[simp] theorem commitReceive_fatal : (s.commitReceive).fatal = s.fatal := rfl
@[simp] theorem commitReceive_err : (s.commitReceive).err = s.err := rfl
@[simp] theorem commitReceive_operands : (s.commitReceive).operands = s.operands := rfl
@[simp] theorem commitReceive_ie : (s.commitReceive).ie = s.ie := rfl
@[simp] theorem commitReceive_enc : (s.commitReceive).enc = s.enc := rfl
@[simp] theorem commitReceive_glitchCnt : (s.commitReceive).glitchCnt = s.glitchCnt := rfl
@[simp] theorem commitReceive_txbuf : (s.commitReceive).txbuf = s.txbuf := rfl
@[simp] theorem commitReceive_rxbuf : (s.commitReceive).rxbuf = s.rxbuf := rfl
@[simp] theorem commitReceive_seq : (s.commitReceive).seq = s.seq := rfl
@[simp] theorem commitReceive_radio : (s.commitReceive).radio = s.radio := rfl
@[simp] theorem commitReceive_host : (s.commitReceive).host = s.host := rfl
@[simp] theorem commitReceive_rx_rssi : (s.commitReceive).rx.rssi = Config.rssiFn s.seq.raw := rfl
@[simp] theorem commitReceive_rx_rssiRaw : (s.commitReceive).rx.rssiRaw = s.seq.raw := rfl
@[simp] theorem commitReceive_rx_glitch : (s.commitReceive).rx.glitch = s.seq.glitch := rfl

/-! ### rxNoOp -/

@[simp] theorem rxNoOp_params : (s.rxNoOp).params = s.params := rfl
@[simp] theorem rxNoOp_flags : (s.rxNoOp).flags = s.flags := rfl
@[simp] theorem rxNoOp_fatal : (s.rxNoOp).fatal = s.fatal := rfl
@[simp] theorem rxNoOp_err : (s.rxNoOp).err = s.err := rfl
@[simp] theorem rxNoOp_operands : (s.rxNoOp).operands = s.operands := rfl
@[simp] theorem rxNoOp_ie : (s.rxNoOp).ie = s.ie := rfl
@[simp] theorem rxNoOp_enc : (s.rxNoOp).enc = s.enc := rfl
@[simp] theorem rxNoOp_glitchCnt : (s.rxNoOp).glitchCnt = s.glitchCnt := rfl
@[simp] theorem rxNoOp_txbuf : (s.rxNoOp).txbuf = s.txbuf := rfl
@[simp] theorem rxNoOp_rxbuf : (s.rxNoOp).rxbuf = s.rxbuf := rfl
@[simp] theorem rxNoOp_seq : (s.rxNoOp).seq = s.seq := rfl
@[simp] theorem rxNoOp_radio : (s.rxNoOp).radio = s.radio := rfl
@[simp] theorem rxNoOp_host : (s.rxNoOp).host = s.host := rfl
@[simp] theorem rxNoOp_rx_rxlen : (s.rxNoOp).rx.rxlen = 0 := rfl
@[simp] theorem rxNoOp_rx_rssi : (s.rxNoOp).rx.rssi = 0 := rfl
@[simp] theorem rxNoOp_rx_rssiRaw : (s.rxNoOp).rx.rssiRaw = 0 := rfl
@[simp] theorem rxNoOp_rx_pkt : (s.rxNoOp).rx.pkt = false := rfl
@[simp] theorem rxNoOp_rx_glitch : (s.rxNoOp).rx.glitch = false := rfl
@[simp] theorem rxNoOp_rx_rxovf : (s.rxNoOp).rx.rxovf = false := rfl
@[simp] theorem rxNoOp_rx_rxtmo : (s.rxNoOp).rx.rxtmo = false := rfl

/-! ### clearErr -/

@[simp] theorem clearErr_params : (s.clearErr).params = s.params := rfl
@[simp] theorem clearErr_flags : (s.clearErr).flags = s.flags := rfl
@[simp] theorem clearErr_fatal : (s.clearErr).fatal = s.fatal := rfl
@[simp] theorem clearErr_operands : (s.clearErr).operands = s.operands := rfl
@[simp] theorem clearErr_ie : (s.clearErr).ie = s.ie := rfl
@[simp] theorem clearErr_enc : (s.clearErr).enc = s.enc := rfl
@[simp] theorem clearErr_rx : (s.clearErr).rx = s.rx := rfl
@[simp] theorem clearErr_glitchCnt : (s.clearErr).glitchCnt = s.glitchCnt := rfl
@[simp] theorem clearErr_txbuf : (s.clearErr).txbuf = s.txbuf := rfl
@[simp] theorem clearErr_rxbuf : (s.clearErr).rxbuf = s.rxbuf := rfl
@[simp] theorem clearErr_seq : (s.clearErr).seq = s.seq := rfl
@[simp] theorem clearErr_radio : (s.clearErr).radio = s.radio := rfl
@[simp] theorem clearErr_host : (s.clearErr).host = s.host := rfl
@[simp] theorem clearErr_err_slot : (s.clearErr).err.slot = .none := rfl
@[simp] theorem clearErr_err_kind : (s.clearErr).err.kind = s.err.kind := rfl
@[simp] theorem clearErr_err_addr : (s.clearErr).err.addr = s.err.addr := rfl

/-! ### keepOpmode -/

@[simp] theorem keepOpmode_params (v : Byte) : (s.keepOpmode v).params = s.params := rfl
@[simp] theorem keepOpmode_flags (v : Byte) : (s.keepOpmode v).flags = s.flags := rfl
@[simp] theorem keepOpmode_fatal (v : Byte) : (s.keepOpmode v).fatal = s.fatal := rfl
@[simp] theorem keepOpmode_err (v : Byte) : (s.keepOpmode v).err = s.err := rfl
@[simp] theorem keepOpmode_operands (v : Byte) : (s.keepOpmode v).operands = s.operands := rfl
@[simp] theorem keepOpmode_ie (v : Byte) : (s.keepOpmode v).ie = s.ie := rfl
@[simp] theorem keepOpmode_enc (v : Byte) : (s.keepOpmode v).enc = s.enc := rfl
@[simp] theorem keepOpmode_rx (v : Byte) : (s.keepOpmode v).rx = s.rx := rfl
@[simp] theorem keepOpmode_glitchCnt (v : Byte) : (s.keepOpmode v).glitchCnt = s.glitchCnt := rfl
@[simp] theorem keepOpmode_txbuf (v : Byte) : (s.keepOpmode v).txbuf = s.txbuf := rfl
@[simp] theorem keepOpmode_rxbuf (v : Byte) : (s.keepOpmode v).rxbuf = s.rxbuf := rfl
@[simp] theorem keepOpmode_radio (v : Byte) : (s.keepOpmode v).radio = s.radio := rfl
@[simp] theorem keepOpmode_host (v : Byte) : (s.keepOpmode v).host = s.host := rfl
@[simp] theorem keepOpmode_seq_phase (v : Byte) : (s.keepOpmode v).seq.phase = s.seq.phase := rfl
@[simp] theorem keepOpmode_seq_frame (v : Byte) : (s.keepOpmode v).seq.frame = s.seq.frame := rfl
@[simp] theorem keepOpmode_seq_frameLen (v : Byte) : (s.keepOpmode v).seq.frameLen = s.seq.frameLen := rfl
@[simp] theorem keepOpmode_seq_sent (v : Byte) : (s.keepOpmode v).seq.sent = s.seq.sent := rfl
@[simp] theorem keepOpmode_seq_budget (v : Byte) : (s.keepOpmode v).seq.budget = s.seq.budget := rfl
@[simp] theorem keepOpmode_seq_count (v : Byte) : (s.keepOpmode v).seq.count = s.seq.count := rfl
@[simp] theorem keepOpmode_seq_outcome (v : Byte) : (s.keepOpmode v).seq.outcome = s.seq.outcome := rfl
@[simp] theorem keepOpmode_seq_xerr (v : Byte) : (s.keepOpmode v).seq.xerr = s.seq.xerr := rfl
@[simp] theorem keepOpmode_seq_raw (v : Byte) : (s.keepOpmode v).seq.raw = s.seq.raw := rfl
@[simp] theorem keepOpmode_seq_glitch (v : Byte) : (s.keepOpmode v).seq.glitch = s.seq.glitch := rfl
@[simp] theorem keepOpmode_seq_len (v : Byte) : (s.keepOpmode v).seq.len = s.seq.len := rfl
@[simp] theorem keepOpmode_seq_opmode (v : Byte) : (s.keepOpmode v).seq.opmode = v := rfl

/-! ### loadFrame -/

@[simp] theorem loadFrame_params : (s.loadFrame).params = s.params := rfl
@[simp] theorem loadFrame_flags : (s.loadFrame).flags = s.flags := rfl
@[simp] theorem loadFrame_fatal : (s.loadFrame).fatal = s.fatal := rfl
@[simp] theorem loadFrame_err : (s.loadFrame).err = s.err := rfl
@[simp] theorem loadFrame_operands : (s.loadFrame).operands = s.operands := rfl
@[simp] theorem loadFrame_ie : (s.loadFrame).ie = s.ie := rfl
@[simp] theorem loadFrame_enc : (s.loadFrame).enc = s.enc := rfl
@[simp] theorem loadFrame_rx : (s.loadFrame).rx = s.rx := rfl
@[simp] theorem loadFrame_glitchCnt : (s.loadFrame).glitchCnt = s.glitchCnt := rfl
@[simp] theorem loadFrame_txbuf : (s.loadFrame).txbuf = s.txbuf := rfl
@[simp] theorem loadFrame_rxbuf : (s.loadFrame).rxbuf = s.rxbuf := rfl
@[simp] theorem loadFrame_radio : (s.loadFrame).radio = s.radio := rfl
@[simp] theorem loadFrame_host : (s.loadFrame).host = s.host := rfl
@[simp] theorem loadFrame_seq_phase : (s.loadFrame).seq.phase = s.seq.phase := rfl
@[simp] theorem loadFrame_seq_frame : (s.loadFrame).seq.frame = memSlice s.txbuf 0 s.txlenNat ++ [0] := rfl
@[simp] theorem loadFrame_seq_frameLen : (s.loadFrame).seq.frameLen = s.txlenNat + 1 := rfl
@[simp] theorem loadFrame_seq_sent : (s.loadFrame).seq.sent = s.seq.sent := rfl
@[simp] theorem loadFrame_seq_budget : (s.loadFrame).seq.budget = s.seq.budget := rfl
@[simp] theorem loadFrame_seq_count : (s.loadFrame).seq.count = s.seq.count := rfl
@[simp] theorem loadFrame_seq_outcome : (s.loadFrame).seq.outcome = s.seq.outcome := rfl
@[simp] theorem loadFrame_seq_xerr : (s.loadFrame).seq.xerr = s.seq.xerr := rfl
@[simp] theorem loadFrame_seq_raw : (s.loadFrame).seq.raw = s.seq.raw := rfl
@[simp] theorem loadFrame_seq_glitch : (s.loadFrame).seq.glitch = s.seq.glitch := rfl
@[simp] theorem loadFrame_seq_len : (s.loadFrame).seq.len = s.txlenNat := rfl
@[simp] theorem loadFrame_seq_opmode : (s.loadFrame).seq.opmode = s.seq.opmode := rfl

/-! ### setSent -/

@[simp] theorem setSent_params (n : Nat) : (s.setSent n).params = s.params := rfl
@[simp] theorem setSent_flags (n : Nat) : (s.setSent n).flags = s.flags := rfl
@[simp] theorem setSent_fatal (n : Nat) : (s.setSent n).fatal = s.fatal := rfl
@[simp] theorem setSent_err (n : Nat) : (s.setSent n).err = s.err := rfl
@[simp] theorem setSent_operands (n : Nat) : (s.setSent n).operands = s.operands := rfl
@[simp] theorem setSent_ie (n : Nat) : (s.setSent n).ie = s.ie := rfl
@[simp] theorem setSent_enc (n : Nat) : (s.setSent n).enc = s.enc := rfl
@[simp] theorem setSent_rx (n : Nat) : (s.setSent n).rx = s.rx := rfl
@[simp] theorem setSent_glitchCnt (n : Nat) : (s.setSent n).glitchCnt = s.glitchCnt := rfl
@[simp] theorem setSent_txbuf (n : Nat) : (s.setSent n).txbuf = s.txbuf := rfl
@[simp] theorem setSent_rxbuf (n : Nat) : (s.setSent n).rxbuf = s.rxbuf := rfl
@[simp] theorem setSent_radio (n : Nat) : (s.setSent n).radio = s.radio := rfl
@[simp] theorem setSent_host (n : Nat) : (s.setSent n).host = s.host := rfl
@[simp] theorem setSent_seq_phase (n : Nat) : (s.setSent n).seq.phase = s.seq.phase := rfl
@[simp] theorem setSent_seq_frame (n : Nat) : (s.setSent n).seq.frame = s.seq.frame := rfl
@[simp] theorem setSent_seq_frameLen (n : Nat) : (s.setSent n).seq.frameLen = s.seq.frameLen := rfl
@[simp] theorem setSent_seq_sent (n : Nat) : (s.setSent n).seq.sent = n := rfl
@[simp] theorem setSent_seq_budget (n : Nat) : (s.setSent n).seq.budget = s.seq.budget := rfl
@[simp] theorem setSent_seq_count (n : Nat) : (s.setSent n).seq.count = s.seq.count := rfl
@[simp] theorem setSent_seq_outcome (n : Nat) : (s.setSent n).seq.outcome = s.seq.outcome := rfl
@[simp] theorem setSent_seq_xerr (n : Nat) : (s.setSent n).seq.xerr = s.seq.xerr := rfl
@[simp] theorem setSent_seq_raw (n : Nat) : (s.setSent n).seq.raw = s.seq.raw := rfl
@[simp] theorem setSent_seq_glitch (n : Nat) : (s.setSent n).seq.glitch = s.seq.glitch := rfl
@[simp] theorem setSent_seq_len (n : Nat) : (s.setSent n).seq.len = s.seq.len := rfl
@[simp] theorem setSent_seq_opmode (n : Nat) : (s.setSent n).seq.opmode = s.seq.opmode := rfl

/-! ### setCount -/

@[simp] theorem setCount_params (n : Nat) : (s.setCount n).params = s.params := rfl
@[simp] theorem setCount_flags (n : Nat) : (s.setCount n).flags = s.flags := rfl
@[simp] theorem setCount_fatal (n : Nat) : (s.setCount n).fatal = s.fatal := rfl
@[simp] theorem setCount_err (n : Nat) : (s.setCount n).err = s.err := rfl
@[simp] theorem setCount_operands (n : Nat) : (s.setCount n).operands = s.operands := rfl
@[simp] theorem setCount_ie (n : Nat) : (s.setCount n).ie = s.ie := rfl
@[simp] theorem setCount_enc (n : Nat) : (s.setCount n).enc = s.enc := rfl
@[simp] theorem setCount_rx (n : Nat) : (s.setCount n).rx = s.rx := rfl
@[simp] theorem setCount_glitchCnt (n : Nat) : (s.setCount n).glitchCnt = s.glitchCnt := rfl
@[simp] theorem setCount_txbuf (n : Nat) : (s.setCount n).txbuf = s.txbuf := rfl
@[simp] theorem setCount_rxbuf (n : Nat) : (s.setCount n).rxbuf = s.rxbuf := rfl
@[simp] theorem setCount_radio (n : Nat) : (s.setCount n).radio = s.radio := rfl
@[simp] theorem setCount_host (n : Nat) : (s.setCount n).host = s.host := rfl
@[simp] theorem setCount_seq_phase (n : Nat) : (s.setCount n).seq.phase = s.seq.phase := rfl
@[simp] theorem setCount_seq_frame (n : Nat) : (s.setCount n).seq.frame = s.seq.frame := rfl
@[simp] theorem setCount_seq_frameLen (n : Nat) : (s.setCount n).seq.frameLen = s.seq.frameLen := rfl
@[simp] theorem setCount_seq_sent (n : Nat) : (s.setCount n).seq.sent = s.seq.sent := rfl
@[simp] theorem setCount_seq_budget (n : Nat) : (s.setCount n).seq.budget = s.seq.budget := rfl
@[simp] theorem setCount_seq_count (n : Nat) : (s.setCount n).seq.count = n := rfl
@[simp] theorem setCount_seq_outcome (n : Nat) : (s.setCount n).seq.outcome = s.seq.outcome := rfl
@[simp] theorem setCount_seq_xerr (n : Nat) : (s.setCount n).seq.xerr = s.seq.xerr := rfl
@[simp] theorem setCount_seq_raw (n : Nat) : (s.setCount n).seq.raw = s.seq.raw := rfl
@[simp] theorem setCount_seq_glitch (n : Nat) : (s.setCount n).seq.glitch = s.seq.glitch := rfl
@[simp] theorem setCount_seq_len (n : Nat) : (s.setCount n).seq.len = s.seq.len := rfl
@[simp] theorem setCount_seq_opmode (n : Nat) : (s.setCount n).seq.opmode = s.seq.opmode := rfl

/-! ### setOutcome -/

@[simp] theorem setOutcome_params (o : RxOutcome) : (s.setOutcome o).params = s.params := rfl
@[simp] theorem setOutcome_flags (o : RxOutcome) : (s.setOutcome o).flags = s.flags := rfl
@[simp] theorem setOutcome_fatal (o : RxOutcome) : (s.setOutcome o).fatal = s.fatal := rfl
@[simp] theorem setOutcome_err (o : RxOutcome) : (s.setOutcome o).err = s.err := rfl
@[simp] theorem setOutcome_operands (o : RxOutcome) : (s.setOutcome o).operands = s.operands := rfl
@[simp] theorem setOutcome_ie (o : RxOutcome) : (s.setOutcome o).ie = s.ie := rfl
@[simp] theorem setOutcome_enc (o : RxOutcome) : (s.setOutcome o).enc = s.enc := rfl
@[simp] theorem setOutcome_rx (o : RxOutcome) : (s.setOutcome o).rx = s.rx := rfl
@[simp] theorem setOutcome_glitchCnt (o : RxOutcome) : (s.setOutcome o).glitchCnt = s.glitchCnt := rfl
@[simp] theorem setOutcome_txbuf (o : RxOutcome) : (s.setOutcome o).txbuf = s.txbuf := rfl
@[simp] theorem setOutcome_rxbuf (o : RxOutcome) : (s.setOutcome o).rxbuf = s.rxbuf := rfl
@[simp] theorem setOutcome_radio (o : RxOutcome) : (s.setOutcome o).radio = s.radio := rfl
@[simp] theorem setOutcome_host (o : RxOutcome) : (s.setOutcome o).host = s.host := rfl
@[simp] theorem setOutcome_seq_phase (o : RxOutcome) : (s.setOutcome o).seq.phase = s.seq.phase := rfl
@[simp] theorem setOutcome_seq_frame (o : RxOutcome) : (s.setOutcome o).seq.frame = s.seq.frame := rfl
@[simp] theorem setOutcome_seq_frameLen (o : RxOutcome) : (s.setOutcome o).seq.frameLen = s.seq.frameLen := rfl
@[simp] theorem setOutcome_seq_sent (o : RxOutcome) : (s.setOutcome o).seq.sent = s.seq.sent := rfl
@[simp] theorem setOutcome_seq_budget (o : RxOutcome) : (s.setOutcome o).seq.budget = s.seq.budget := rfl
@[simp] theorem setOutcome_seq_count (o : RxOutcome) : (s.setOutcome o).seq.count = s.seq.count := rfl
@[simp] theorem setOutcome_seq_outcome (o : RxOutcome) : (s.setOutcome o).seq.outcome = o := rfl
@[simp] theorem setOutcome_seq_xerr (o : RxOutcome) : (s.setOutcome o).seq.xerr = s.seq.xerr := rfl
@[simp] theorem setOutcome_seq_raw (o : RxOutcome) : (s.setOutcome o).seq.raw = s.seq.raw := rfl
@[simp] theorem setOutcome_seq_glitch (o : RxOutcome) : (s.setOutcome o).seq.glitch = s.seq.glitch := rfl
@[simp] theorem setOutcome_seq_len (o : RxOutcome) : (s.setOutcome o).seq.len = s.seq.len := rfl
@[simp] theorem setOutcome_seq_opmode (o : RxOutcome) : (s.setOutcome o).seq.opmode = s.seq.opmode := rfl

/-! ### setBudget -/

@[simp] theorem setBudget_params (b : Nat) : (s.setBudget b).params = s.params := rfl
@[simp] theorem setBudget_flags (b : Nat) : (s.setBudget b).flags = s.flags := rfl
@[simp] theorem setBudget_fatal (b : Nat) : (s.setBudget b).fatal = s.fatal := rfl
@[simp] theorem setBudget_err (b : Nat) : (s.setBudget b).err = s.err := rfl
@[simp] theorem setBudget_operands (b : Nat) : (s.setBudget b).operands = s.operands := rfl
@[simp] theorem setBudget_ie (b : Nat) : (s.setBudget b).ie = s.ie := rfl
@[simp] theorem setBudget_enc (b : Nat) : (s.setBudget b).enc = s.enc := rfl
@[simp] theorem setBudget_rx (b : Nat) : (s.setBudget b).rx = s.rx := rfl
@[simp] theorem setBudget_glitchCnt (b : Nat) : (s.setBudget b).glitchCnt = s.glitchCnt := rfl
@[simp] theorem setBudget_txbuf (b : Nat) : (s.setBudget b).txbuf = s.txbuf := rfl
@[simp] theorem setBudget_rxbuf (b : Nat) : (s.setBudget b).rxbuf = s.rxbuf := rfl
@[simp] theorem setBudget_radio (b : Nat) : (s.setBudget b).radio = s.radio := rfl
@[simp] theorem setBudget_host (b : Nat) : (s.setBudget b).host = s.host := rfl
@[simp] theorem setBudget_seq_phase (b : Nat) : (s.setBudget b).seq.phase = s.seq.phase := rfl
@[simp] theorem setBudget_seq_frame (b : Nat) : (s.setBudget b).seq.frame = s.seq.frame := rfl
@[simp] theorem setBudget_seq_frameLen (b : Nat) : (s.setBudget b).seq.frameLen = s.seq.frameLen := rfl
@[simp] theorem setBudget_seq_sent (b : Nat) : (s.setBudget b).seq.sent = s.seq.sent := rfl
@[simp] theorem setBudget_seq_budget (b : Nat) : (s.setBudget b).seq.budget = b := rfl
@[simp] theorem setBudget_seq_count (b : Nat) : (s.setBudget b).seq.count = s.seq.count := rfl
@[simp] theorem setBudget_seq_outcome (b : Nat) : (s.setBudget b).seq.outcome = s.seq.outcome := rfl
@[simp] theorem setBudget_seq_xerr (b : Nat) : (s.setBudget b).seq.xerr = s.seq.xerr := rfl
@[simp] theorem setBudget_seq_raw (b : Nat) : (s.setBudget b).seq.raw = s.seq.raw := rfl
@[simp] theorem setBudget_seq_glitch (b : Nat) : (s.setBudget b).seq.glitch = s.seq.glitch := rfl
@[simp] theorem setBudget_seq_len (b : Nat) : (s.setBudget b).seq.len = s.seq.len := rfl
@[simp] theorem setBudget_seq_opmode (b : Nat) : (s.setBudget b).seq.opmode = s.seq.opmode := rfl

/-! ### writeRx -/

@[simp] theorem writeRx_params (i : Nat) (v : Byte) : (s.writeRx i v).params = s.params := rfl
@[simp] theorem writeRx_flags (i : Nat) (v : Byte) : (s.writeRx i v).flags = s.flags := rfl
@[simp] theorem writeRx_fatal (i : Nat) (v : Byte) : (s.writeRx i v).fatal = s.fatal := rfl
@[simp] theorem writeRx_err (i : Nat) (v : Byte) : (s.writeRx i v).err = s.err := rfl
@[simp] theorem writeRx_operands (i : Nat) (v : Byte) : (s.writeRx i v).operands = s.operands := rfl
@[simp] theorem writeRx_ie (i : Nat) (v : Byte) : (s.writeRx i v).ie = s.ie := rfl
@[simp] theorem writeRx_enc (i : Nat) (v : Byte) : (s.writeRx i v).enc = s.enc := rfl
@[simp] theorem writeRx_rx (i : Nat) (v : Byte) : (s.writeRx i v).rx = s.rx := rfl
@[simp] theorem writeRx_glitchCnt (i : Nat) (v : Byte) : (s.writeRx i v).glitchCnt = s.glitchCnt := rfl
@[simp] theorem writeRx_txbuf (i : Nat) (v : Byte) : (s.writeRx i v).txbuf = s.txbuf := rfl
@[simp] theorem writeRx_seq (i : Nat) (v : Byte) : (s.writeRx i v).seq = s.seq := rfl
@[simp] theorem writeRx_radio (i : Nat) (v : Byte) : (s.writeRx i v).radio = s.radio := rfl
@[simp] theorem writeRx_host (i : Nat) (v : Byte) : (s.writeRx i v).host = s.host := rfl
@[simp] theorem writeRx_rxbuf (i : Nat) (v : Byte) : (s.writeRx i v).rxbuf = memWrite s.rxbuf i v := rfl

/-! ### startReceive -/

@[simp] theorem startReceive_params (v : Byte) : (s.startReceive v).params = s.params := rfl
@[simp] theorem startReceive_flags (v : Byte) : (s.startReceive v).flags = s.flags := rfl
@[simp] theorem startReceive_fatal (v : Byte) : (s.startReceive v).fatal = s.fatal := rfl
@[simp] theorem startReceive_err (v : Byte) : (s.startReceive v).err = s.err := rfl
@[simp] theorem startReceive_operands (v : Byte) : (s.startReceive v).operands = s.operands := rfl
@[simp] theorem startReceive_ie (v : Byte) : (s.startReceive v).ie = s.ie := rfl
@[simp] theorem startReceive_enc (v : Byte) : (s.startReceive v).enc = s.enc := rfl
@[simp] theorem startReceive_rx (v : Byte) : (s.startReceive v).rx = s.rx := rfl
@[simp] theorem startReceive_glitchCnt (v : Byte) : (s.startReceive v).glitchCnt = s.glitchCnt := rfl
@[simp] theorem startReceive_txbuf (v : Byte) : (s.startReceive v).txbuf = s.txbuf := rfl
@[simp] theorem startReceive_rxbuf (v : Byte) : (s.startReceive v).rxbuf = s.rxbuf := rfl
@[simp] theorem startReceive_radio (v : Byte) : (s.startReceive v).radio = s.radio := rfl
@[simp] theorem startReceive_host (v : Byte) : (s.startReceive v).host = s.host := rfl
@[simp] theorem startReceive_seq_phase (v : Byte) : (s.startReceive v).seq.phase = s.seq.phase := rfl
@[simp] theorem startReceive_seq_frame (v : Byte) : (s.startReceive v).seq.frame = s.seq.frame := rfl
@[simp] theorem startReceive_seq_frameLen (v : Byte) : (s.startReceive v).seq.frameLen = s.seq.frameLen := rfl
@[simp] theorem startReceive_seq_sent (v : Byte) : (s.startReceive v).seq.sent = s.seq.sent := rfl
@[simp] theorem startReceive_seq_budget (v : Byte) : (s.startReceive v).seq.budget = s.timeoutNat := rfl
@[simp] theorem startReceive_seq_count (v : Byte) : (s.startReceive v).seq.count = 0 := rfl
@[simp] theorem startReceive_seq_outcome (v : Byte) : (s.startReceive v).seq.outcome = .abort := rfl
@[simp] theorem startReceive_seq_xerr (v : Byte) : (s.startReceive v).seq.xerr = s.seq.xerr := rfl
@[simp] theorem startReceive_seq_raw (v : Byte) : (s.startReceive v).seq.raw = v := rfl
@[simp] theorem startReceive_seq_glitch (v : Byte) : (s.startReceive v).seq.glitch = false := rfl
@[simp] theorem startReceive_seq_len (v : Byte) : (s.startReceive v).seq.len = s.seq.len := rfl
@[simp] theorem startReceive_seq_opmode (v : Byte) : (s.startReceive v).seq.opmode = s.seq.opmode := rfl

/-! ### dropGlitch -/

@[simp] theorem dropGlitch_params : (s.dropGlitch).params = s.params := rfl
@[simp] theorem dropGlitch_flags : (s.dropGlitch).flags = s.flags := rfl
@[simp] theorem dropGlitch_fatal : (s.dropGlitch).fatal = s.fatal := rfl
@[simp] theorem dropGlitch_err : (s.dropGlitch).err = s.err := rfl
@[simp] theorem dropGlitch_operands : (s.dropGlitch).operands = s.operands := rfl
@[simp] theorem dropGlitch_ie : (s.dropGlitch).ie = s.ie := rfl
@[simp] theorem dropGlitch_enc : (s.dropGlitch).enc = s.enc := rfl
@[simp] theorem dropGlitch_rx : (s.dropGlitch).rx = s.rx := rfl
@[simp] theorem dropGlitch_txbuf : (s.dropGlitch).txbuf = s.txbuf := rfl
@[simp] theorem dropGlitch_rxbuf : (s.dropGlitch).rxbuf = s.rxbuf := rfl
@[simp] theorem dropGlitch_radio : (s.dropGlitch).radio = s.radio := rfl
@[simp] theorem dropGlitch_host : (s.dropGlitch).host = s.host := rfl
@[simp] theorem dropGlitch_seq_phase : (s.dropGlitch).seq.phase = s.seq.phase := rfl
@[simp] theorem dropGlitch_seq_frame : (s.dropGlitch).seq.frame = s.seq.frame := rfl
@[simp] theorem dropGlitch_seq_frameLen : (s.dropGlitch).seq.frameLen = s.seq.frameLen := rfl
@[simp] theorem dropGlitch_seq_sent : (s.dropGlitch).seq.sent = s.seq.sent := rfl
@[simp] theorem dropGlitch_seq_budget : (s.dropGlitch).seq.budget = s.seq.budget := rfl
@[simp] theorem dropGlitch_seq_count : (s.dropGlitch).seq.count = s.seq.count - 1 := rfl
@[simp] theorem dropGlitch_seq_outcome : (s.dropGlitch).seq.outcome = s.seq.outcome := rfl
@[simp] theorem dropGlitch_seq_xerr : (s.dropGlitch).seq.xerr = s.seq.xerr := rfl
@[simp] theorem dropGlitch_seq_raw : (s.dropGlitch).seq.raw = s.seq.raw := rfl
@[simp] theorem dropGlitch_seq_glitch : (s.dropGlitch).seq.glitch = true := rfl
@[simp] theorem dropGlitch_seq_len : (s.dropGlitch).seq.len = s.seq.len := rfl
@[simp] theorem dropGlitch_seq_opmode : (s.dropGlitch).seq.opmode = s.seq.opmode := rfl
@[simp] theorem dropGlitch_glitchCnt : (s.dropGlitch).glitchCnt = s.glitchCnt + 1 := rfl

/-! ### tick -/

@[simp] theorem tick_params : (s.tick).params = s.params := rfl
@[simp] theorem tick_flags : (s.tick).flags = s.flags := rfl
@[simp] theorem tick_fatal : (s.tick).fatal = s.fatal := rfl
@[simp] theorem tick_err : (s.tick).err = s.err := rfl
@[simp] theorem tick_operands : (s.tick).operands = s.operands := rfl
@[simp] theorem tick_ie : (s.tick).ie = s.ie := rfl
@[simp] theorem tick_enc : (s.tick).enc = s.enc := rfl
@[simp] theorem tick_rx : (s.tick).rx = s.rx := rfl
@[simp] theorem tick_glitchCnt : (s.tick).glitchCnt = s.glitchCnt := rfl
@[simp] theorem tick_txbuf : (s.tick).txbuf = s.txbuf := rfl
@[simp] theorem tick_rxbuf : (s.tick).rxbuf = s.rxbuf := rfl
@[simp] theorem tick_seq : (s.tick).seq = s.seq := rfl
@[simp] theorem tick_radio : (s.tick).radio = s.radio := rfl
@[simp] theorem tick_host_queue : (s.tick).host.queue = tickQueue s.host.queue := rfl
@[simp] theorem tick_host_reads : (s.tick).host.reads = s.host.reads := rfl

/-! ### popHost -/

@[simp] theorem popHost_params : (s.popHost).params = s.params := rfl
@[simp] theorem popHost_flags : (s.popHost).flags = s.flags := rfl
@[simp] theorem popHost_fatal : (s.popHost).fatal = s.fatal := rfl
@[simp] theorem popHost_err : (s.popHost).err = s.err := rfl
@[simp] theorem popHost_operands : (s.popHost).operands = s.operands := rfl
@[simp] theorem popHost_ie : (s.popHost).ie = s.ie := rfl
@[simp] theorem popHost_enc : (s.popHost).enc = s.enc := rfl
@[simp] theorem popHost_rx : (s.popHost).rx = s.rx := rfl
@[simp] theorem popHost_glitchCnt : (s.popHost).glitchCnt = s.glitchCnt := rfl
@[simp] theorem popHost_txbuf : (s.popHost).txbuf = s.txbuf := rfl
@[simp] theorem popHost_rxbuf : (s.popHost).rxbuf = s.rxbuf := rfl
@[simp] theorem popHost_seq : (s.popHost).seq = s.seq := rfl
@[simp] theorem popHost_radio : (s.popHost).radio = s.radio := rfl
@[simp] theorem popHost_host_queue : (s.popHost).host.queue = s.host.queue.tail := rfl
@[simp] theorem popHost_host_reads : (s.popHost).host.reads = s.host.reads := rfl

/-! ### returnRead -/

@[simp] theorem returnRead_params (v : Word) : (s.returnRead v).params = s.params := rfl
@[simp] theorem returnRead_flags (v : Word) : (s.returnRead v).flags = s.flags := rfl
@[simp] theorem returnRead_fatal (v : Word) : (s.returnRead v).fatal = s.fatal := rfl
@[simp] theorem returnRead_err (v : Word) : (s.returnRead v).err = s.err := rfl
@[simp] theorem returnRead_operands (v : Word) : (s.returnRead v).operands = s.operands := rfl
@[simp] theorem returnRead_ie (v : Word) : (s.returnRead v).ie = s.ie := rfl
@[simp] theorem returnRead_enc (v : Word) : (s.returnRead v).enc = s.enc := rfl
@[simp] theorem returnRead_rx (v : Word) : (s.returnRead v).rx = s.rx := rfl
@[simp] theorem returnRead_glitchCnt (v : Word) : (s.returnRead v).glitchCnt = s.glitchCnt := rfl
@[simp] theorem returnRead_txbuf (v : Word) : (s.returnRead v).txbuf = s.txbuf := rfl
@[simp] theorem returnRead_rxbuf (v : Word) : (s.returnRead v).rxbuf = s.rxbuf := rfl
@[simp] theorem returnRead_seq (v : Word) : (s.returnRead v).seq = s.seq := rfl
@[simp] theorem returnRead_radio (v : Word) : (s.returnRead v).radio = s.radio := rfl
@[simp] theorem returnRead_host_queue (v : Word) : (s.returnRead v).host.queue = s.host.queue := rfl
@[simp] theorem returnRead_host_reads (v : Word) : (s.returnRead v).host.reads = v :: s.host.reads := rfl

/-! ### waitAgain -/

@[simp] theorem waitAgain_params : (s.waitAgain).params = s.params := rfl
@[simp] theorem waitAgain_flags : (s.waitAgain).flags = s.flags := rfl
@[simp] theorem waitAgain_fatal : (s.waitAgain).fatal = s.fatal := rfl
@[simp] theorem waitAgain_err : (s.waitAgain).err = s.err := rfl
@[simp] theorem waitAgain_operands : (s.waitAgain).operands = s.operands := rfl
@[simp] theorem waitAgain_ie : (s.waitAgain).ie = s.ie := rfl
@[simp] theorem waitAgain_enc : (s.waitAgain).enc = s.enc := rfl
@[simp] theorem waitAgain_rx : (s.waitAgain).rx = s.rx := rfl
@[simp] theorem waitAgain_glitchCnt : (s.waitAgain).glitchCnt = s.glitchCnt := rfl
@[simp] theorem waitAgain_txbuf : (s.waitAgain).txbuf = s.txbuf := rfl
@[simp] theorem waitAgain_rxbuf : (s.waitAgain).rxbuf = s.rxbuf := rfl
@[simp] theorem waitAgain_seq : (s.waitAgain).seq = s.seq := rfl
@[simp] theorem waitAgain_radio : (s.waitAgain).radio = s.radio := rfl
@[simp] theorem waitAgain_host_reads : (s.waitAgain).host.reads = s.host.reads := rfl

/-! ### writeStatus -/

@[simp] theorem writeStatus_params (v : Word) : (s.writeStatus v).params = s.params := rfl
@[simp] theorem writeStatus_fatal (v : Word) : (s.writeStatus v).fatal = s.fatal := rfl
@[simp] theorem writeStatus_err (v : Word) : (s.writeStatus v).err = s.err := rfl
@[simp] theorem writeStatus_operands (v : Word) : (s.writeStatus v).operands = s.operands := rfl
@[simp] theorem writeStatus_ie (v : Word) : (s.writeStatus v).ie = s.ie := rfl
@[simp] theorem writeStatus_enc (v : Word) : (s.writeStatus v).enc = s.enc := rfl
@[simp] theorem writeStatus_rx (v : Word) : (s.writeStatus v).rx = s.rx := rfl
@[simp] theorem writeStatus_glitchCnt (v : Word) : (s.writeStatus v).glitchCnt = s.glitchCnt := rfl
@[simp] theorem writeStatus_txbuf (v : Word) : (s.writeStatus v).txbuf = s.txbuf := rfl
@[simp] theorem writeStatus_rxbuf (v : Word) : (s.writeStatus v).rxbuf = s.rxbuf := rfl
@[simp] theorem writeStatus_seq (v : Word) : (s.writeStatus v).seq = s.seq := rfl
@[simp] theorem writeStatus_radio (v : Word) : (s.writeStatus v).radio = s.radio := rfl
@[simp] theorem writeStatus_host (v : Word) : (s.writeStatus v).host = s.host := rfl
@[simp] theorem writeStatus_flags_busy (v : Word) : (s.writeStatus v).flags.busy = s.flags.busy := rfl
@[simp] theorem writeStatus_flags_done (v : Word) : (s.writeStatus v).flags.done = (s.flags.done && !v.getLsbD 1) := rfl
@[simp] theorem writeStatus_flags_xerr (v : Word) : (s.writeStatus v).flags.xerr = s.flags.xerr := rfl
@[simp] theorem writeStatus_flags_cmdlost (v : Word) : (s.writeStatus v).flags.cmdlost = (s.flags.cmdlost && !v.getLsbD 10) := rfl

/-! ### writeIe -/

@[simp] theorem writeIe_params (v : Word) : (s.writeIe v).params = s.params := rfl
@[simp] theorem writeIe_flags (v : Word) : (s.writeIe v).flags = s.flags := rfl
@[simp] theorem writeIe_fatal (v : Word) : (s.writeIe v).fatal = s.fatal := rfl
@[simp] theorem writeIe_err (v : Word) : (s.writeIe v).err = s.err := rfl
@[simp] theorem writeIe_operands (v : Word) : (s.writeIe v).operands = s.operands := rfl
@[simp] theorem writeIe_enc (v : Word) : (s.writeIe v).enc = s.enc := rfl
@[simp] theorem writeIe_rx (v : Word) : (s.writeIe v).rx = s.rx := rfl
@[simp] theorem writeIe_glitchCnt (v : Word) : (s.writeIe v).glitchCnt = s.glitchCnt := rfl
@[simp] theorem writeIe_txbuf (v : Word) : (s.writeIe v).txbuf = s.txbuf := rfl
@[simp] theorem writeIe_rxbuf (v : Word) : (s.writeIe v).rxbuf = s.rxbuf := rfl
@[simp] theorem writeIe_seq (v : Word) : (s.writeIe v).seq = s.seq := rfl
@[simp] theorem writeIe_radio (v : Word) : (s.writeIe v).radio = s.radio := rfl
@[simp] theorem writeIe_host (v : Word) : (s.writeIe v).host = s.host := rfl
@[simp] theorem writeIe_ie_doneIe (v : Word) : (s.writeIe v).ie.doneIe = v.getLsbD 0 := rfl
@[simp] theorem writeIe_ie_fatalIe (v : Word) : (s.writeIe v).ie.fatalIe = v.getLsbD 1 := rfl

end Sys2Proof.Machine
end

