-- ==== Sys2Proof/Laws/Transport.lean ====
section
/-! SUPPORT. What each transport operation can do (R67 to R71), said once: the two outcomes of a transaction, the no-op
while ERR != 0, and what none of them touches. -/

namespace Sys2Proof.Machine

open Sys2Proof.Config

/-- `t` differs from `s` at most in the radio port, the ERR record and the hidden xerr. -/
structure PortStep (s t : State) : Prop where
  params : t.params = s.params
  flags : t.flags = s.flags
  fatal : t.fatal = s.fatal
  operands : t.operands = s.operands
  ie : t.ie = s.ie
  enc : t.enc = s.enc
  rx : t.rx = s.rx
  glitchCnt : t.glitchCnt = s.glitchCnt
  txbuf : t.txbuf = s.txbuf
  rxbuf : t.rxbuf = s.rxbuf
  seq : t.seq = { s.seq with xerr := t.seq.xerr }
  host : t.host = s.host

theorem PortStep.phase {s t : State} (h : PortStep s t) : t.seq.phase = s.seq.phase := by rw [h.seq]

/-! No transaction touches hidden state other than xerr. -/

theorem PortStep.seq_frame {s t : State} (h : PortStep s t) : t.seq.frame = s.seq.frame := by rw [h.seq]

theorem PortStep.seq_frameLen {s t : State} (h : PortStep s t) : t.seq.frameLen = s.seq.frameLen := by rw [h.seq]

theorem PortStep.seq_sent {s t : State} (h : PortStep s t) : t.seq.sent = s.seq.sent := by rw [h.seq]

theorem PortStep.seq_budget {s t : State} (h : PortStep s t) : t.seq.budget = s.seq.budget := by rw [h.seq]

theorem PortStep.seq_count {s t : State} (h : PortStep s t) : t.seq.count = s.seq.count := by rw [h.seq]

theorem PortStep.seq_outcome {s t : State} (h : PortStep s t) : t.seq.outcome = s.seq.outcome := by rw [h.seq]

theorem PortStep.seq_raw {s t : State} (h : PortStep s t) : t.seq.raw = s.seq.raw := by rw [h.seq]

theorem PortStep.seq_glitch {s t : State} (h : PortStep s t) : t.seq.glitch = s.seq.glitch := by rw [h.seq]

theorem PortStep.seq_len {s t : State} (h : PortStep s t) : t.seq.len = s.seq.len := by rw [h.seq]

theorem PortStep.seq_opmode {s t : State} (h : PortStep s t) : t.seq.opmode = s.seq.opmode := by rw [h.seq]

theorem PortStep.refl (s : State) : PortStep s s := ⟨rfl, rfl, rfl, rfl, rfl, rfl, rfl, rfl, rfl, rfl, rfl, rfl⟩

theorem transact_port (s : State) (x : Txn) : PortStep s (s.transact x) :=
  ⟨rfl, rfl, rfl, rfl, rfl, rfl, rfl, rfl, rfl, rfl, rfl, rfl⟩

theorem sleep_port (s : State) (us : Nat) : PortStep s (sleep us s) :=
  ⟨rfl, rfl, rfl, rfl, rfl, rfl, rfl, rfl, rfl, rfl, rfl, rfl⟩

@[simp] theorem latchIfFailed_ok (s : State) (a : RegAddr) (k : TxnKind) (b : Byte) :
    s.latchIfFailed a k (.ok b) = s := rfl

@[simp] theorem latchIfFailed_fail (s : State) (a : RegAddr) (k : TxnKind) :
    s.latchIfFailed a k .fail = s.latchTransport a k := rfl

@[simp] theorem answerByte_ok (b : Byte) : answerByte (.ok b) = b := rfl

@[simp] theorem answerByte_fail : answerByte .fail = 0 := rfl

theorem latched_transact (s : State) (x : Txn) (a : RegAddr) (k : TxnKind) (ans : RadioAnswer) :
    PortStep s ((s.transact x).latchIfFailed a k ans) := by
  cases ans <;> exact ⟨rfl, rfl, rfl, rfl, rfl, rfl, rfl, rfl, rfl, rfl, rfl, rfl⟩

theorem rread_port (a : RegAddr) (s : State) : PortStep s (rread a s) := by
  unfold rread
  split
  · exact .refl s
  · exact latched_transact s _ _ _ _

theorem rwrite_port (a : RegAddr) (v : Byte) (s : State) : PortStep s (rwrite a v s) := by
  unfold rwrite
  split
  · exact .refl s
  · exact latched_transact s _ _ _ _

theorem rburst_port (bytes : List Byte) (s : State) : PortStep s (rburst bytes s) := by
  unfold rburst
  split
  · exact .refl s
  · exact latched_transact s _ _ _ _

theorem rawait_port (us : Nat) (s : State) : PortStep s (rawait us s) := by
  unfold rawait
  split
  · exact .refl s
  · exact latched_transact s _ _ _ _

/-! ### A latched error makes every transaction a no-op (R67 to R70) -/

theorem rread_latched {s : State} (h : s.errLatched = true) (a : RegAddr) : rread a s = s := by simp [rread, h]

theorem rreadByte_latched {s : State} (h : s.errLatched = true) : rreadByte s = 0 := by simp [rreadByte, h]

theorem rwrite_latched {s : State} (h : s.errLatched = true) (a : RegAddr) (v : Byte) : rwrite a v s = s := by
  simp [rwrite, h]

theorem rburst_latched {s : State} (h : s.errLatched = true) (bytes : List Byte) : rburst bytes s = s := by
  simp [rburst, h]

theorem rawait_latched {s : State} (h : s.errLatched = true) (us : Nat) : rawait us s = s := by simp [rawait, h]

/-! ### The two answers -/

theorem rread_ok {s : State} {b : Byte} (h : s.errLatched = false) (ha : s.nextAnswer = .ok b) (a : RegAddr) :
    rread a s = s.transact (.read a (.ok b)) := by simp [rread, h, ha]

theorem rreadByte_ok {s : State} {b : Byte} (h : s.errLatched = false) (ha : s.nextAnswer = .ok b) :
    rreadByte s = b := by simp [rreadByte, h, ha]

theorem rread_fail {s : State} (h : s.errLatched = false) (ha : s.nextAnswer = .fail) (a : RegAddr) :
    rread a s = (s.transact (.read a .fail)).latchTransport a .read := by simp [rread, h, ha]

theorem rwrite_ok {s : State} {b : Byte} (h : s.errLatched = false) (ha : s.nextAnswer = .ok b) (a : RegAddr)
    (v : Byte) : rwrite a v s = s.transact (.write a v (.ok b)) := by simp [rwrite, h, ha]

theorem rwrite_fail {s : State} (h : s.errLatched = false) (ha : s.nextAnswer = .fail) (a : RegAddr) (v : Byte) :
    rwrite a v s = (s.transact (.write a v .fail)).latchTransport a .write := by simp [rwrite, h, ha]

theorem rburst_ok {s : State} {b : Byte} (h : s.errLatched = false) (ha : s.nextAnswer = .ok b) (bytes : List Byte) :
    rburst bytes s = s.transact (.burst s.params.profile.aFifo bytes (.ok b)) := by simp [rburst, h, ha]

theorem rburst_fail {s : State} (h : s.errLatched = false) (ha : s.nextAnswer = .fail) (bytes : List Byte) :
    rburst bytes s
      = (s.transact (.burst s.params.profile.aFifo bytes .fail)).latchTransport s.params.profile.aFifo .burst := by
  simp [rburst, h, ha]

theorem rawait_ok {s : State} {b : Byte} (h : s.errLatched = false) (ha : s.nextAnswer = .ok b) (us : Nat) :
    rawait us s = s.transact (.await us (.ok b)) := by simp [rawait, h, ha]

theorem rawait_fail {s : State} (h : s.errLatched = false) (ha : s.nextAnswer = .fail) (us : Nat) :
    rawait us s = (s.transact (.await us .fail)).latchTransport 0 .await := by simp [rawait, h, ha]

/-! ### ERR after a transaction -/

@[simp] theorem errLatched_goto (s : State) (p : Pos) : (s.goto p).errLatched = s.errLatched := rfl

@[simp] theorem errLatched_transact (s : State) (x : Txn) : (s.transact x).errLatched = s.errLatched := rfl

@[simp] theorem errLatched_sleep (s : State) (us : Nat) : (sleep us s).errLatched = s.errLatched := rfl

@[simp] theorem errLatched_keepOpmode (s : State) (v : Byte) : (s.keepOpmode v).errLatched = s.errLatched := rfl

@[simp] theorem errLatched_loadFrame (s : State) : s.loadFrame.errLatched = s.errLatched := rfl

@[simp] theorem errLatched_setSent (s : State) (n : Nat) : (s.setSent n).errLatched = s.errLatched := rfl

@[simp] theorem errLatched_latchTransport (s : State) (a : RegAddr) (k : TxnKind) :
    (s.latchTransport a k).errLatched = true := rfl

@[simp] theorem errLatched_clearErr (s : State) : s.clearErr.errLatched = false := rfl

@[simp] theorem nextAnswer_clearErr (s : State) : s.clearErr.nextAnswer = s.nextAnswer := rfl

@[simp] theorem nextAnswer_loadFrame (s : State) : s.loadFrame.nextAnswer = s.nextAnswer := rfl

@[simp] theorem nextAnswer_goto (s : State) (p : Pos) : (s.goto p).nextAnswer = s.nextAnswer := rfl

/-- The answer of a transaction with one pending. -/
theorem nextAnswer_cons {s : State} {x : RadioAnswer} {rest : List RadioAnswer} (h : s.radio.answers = x :: rest) :
    s.nextAnswer = x := by simp [State.nextAnswer, h]

/-! ### Positions -/

@[simp] theorem pos_goto (s : State) (p : Pos) : (s.goto p).pos = s.pos.map fun _ => p := by
  unfold State.pos State.goto Phase.move
  cases s.seq.phase <;> rfl

/-- A position is one of a running word. -/
theorem pos_eq_some {s : State} {p : Pos} : s.pos = some p ↔ ∃ w, s.seq.phase = .running w p := by
  unfold State.pos
  cases s.seq.phase <;> simp

theorem pos_of_seq {s t : State} (h : t.seq.phase = s.seq.phase) : t.pos = s.pos := by simp [State.pos, h]

theorem PortStep.pos {s t : State} (h : PortStep s t) : t.pos = s.pos := pos_of_seq h.phase

end Sys2Proof.Machine
end

