-- ==== Sys2Proof/Laws/Exec.lean ====
section
/-! SUPPORT. What one block step can do, said once: a step inside a command's body, a fatal fault, or a completion. -/

namespace Sys2Proof.Machine

open Sys2Proof.Config

/-- `t` is `s` after a step inside a command's body: the command is the same at some position; only hidden state, the
radio port, the ERR record, RXBUF and GLITCHCNT may differ (R65). -/
structure BodyStep (s t : State) : Prop where
  params : t.params = s.params
  flags : t.flags = s.flags
  fatal : t.fatal = s.fatal
  operands : t.operands = s.operands
  ie : t.ie = s.ie
  enc : t.enc = s.enc
  rx : t.rx = s.rx
  txbuf : t.txbuf = s.txbuf
  host : t.host = s.host
  phase : ∃ p, t.seq.phase = s.seq.phase.move p

/-- As `BodyStep`, with RXBUF and GLITCHCNT unchanged too: a step of `SetMode`, of a SET command or of `SendBody`. -/
structure QuietStep (s t : State) : Prop extends BodyStep s t where
  glitchCnt : t.glitchCnt = s.glitchCnt
  rxbuf : t.rxbuf = s.rxbuf

/-- A transaction followed by a move is a quiet step. -/
theorem PortStep.quiet {s t : State} (h : PortStep s t) (p : Pos) : QuietStep s (t.goto p) where
  params := h.params
  flags := h.flags
  fatal := h.fatal
  operands := h.operands
  ie := h.ie
  enc := h.enc
  rx := h.rx
  txbuf := h.txbuf
  host := h.host
  phase := ⟨p, by rw [goto_seq_phase, h.phase]⟩
  glitchCnt := h.glitchCnt
  rxbuf := h.rxbuf

/-- Changing hidden state (not phase) or the ERR record first does not matter to a quiet step. -/
theorem QuietStep.of_eq {s s' t : State} (h : QuietStep s' t) (h1 : s'.params = s.params) (h2 : s'.flags = s.flags)
    (h3 : s'.fatal = s.fatal) (h4 : s'.operands = s.operands) (h5 : s'.ie = s.ie) (h6 : s'.enc = s.enc)
    (h7 : s'.rx = s.rx) (h8 : s'.txbuf = s.txbuf) (h9 : s'.host = s.host) (h10 : s'.seq.phase = s.seq.phase)
    (h11 : s'.glitchCnt = s.glitchCnt) (h12 : s'.rxbuf = s.rxbuf) : QuietStep s t where
  params := h.params.trans h1
  flags := h.flags.trans h2
  fatal := h.fatal.trans h3
  operands := h.operands.trans h4
  ie := h.ie.trans h5
  enc := h.enc.trans h6
  rx := h.rx.trans h7
  txbuf := h.txbuf.trans h8
  host := h.host.trans h9
  phase := h10 ▸ h.phase
  glitchCnt := h.glitchCnt.trans h11
  rxbuf := h.rxbuf.trans h12

theorem modeEnter_quiet (m : BitVec 3) (c : ModeCall) (s : State) : QuietStep s (modeEnter m c s) := by
  have h : ∀ p, QuietStep s (((rread s.params.profile.aOpmode s.clearErr).keepOpmode (rreadByte s.clearErr)).goto p) := by
    intro p
    have hp := rread_port s.params.profile.aOpmode s.clearErr
    exact ⟨⟨hp.params, hp.flags, hp.fatal, hp.operands, hp.ie, hp.enc, hp.rx, hp.txbuf, hp.host,
      ⟨p, by rw [goto_seq_phase, keepOpmode_seq_phase, hp.phase]; rfl⟩⟩, hp.glitchCnt, hp.rxbuf⟩
  unfold modeEnter
  dsimp only
  split
  · exact h _
  · split <;> exact h _

theorem modeStep_quiet (m : BitVec 3) (c : ModeCall) (p : ModeStep) (s : State) : QuietStep s (modeStep m c p s) := by
  cases p with
  | enter => exact modeEnter_quiet m c s
  | write => exact (rwrite_port _ _ s).quiet _
  | poll =>
    simp only [modeStep, modePoll]
    split
    · exact (rread_port _ s).quiet _
    · split
      · split <;> exact (rread_port _ s).quiet _
      · exact (rread_port _ s).quiet _
  | ready =>
    simp only [modeStep, modeReady]
    split
    · exact (rread_port _ s).quiet _
    · split <;> exact (rread_port _ s).quiet _

theorem sendBodyStart_quiet (s : State) : QuietStep s (sendBodyStart s) :=
  (modeEnter_quiet modeStandby .sendStandby s.loadFrame).of_eq rfl rfl rfl rfl rfl rfl rfl rfl rfl rfl rfl rfl

theorem sendBurst_port (k : Nat) (s : State) (p : Pos) : QuietStep s ((sendBurst k s).goto p) := by
  have hp := rburst_port ((s.seq.frame.drop s.seq.sent).take k) s
  exact ⟨⟨hp.params, hp.flags, hp.fatal, hp.operands, hp.ie, hp.enc, hp.rx, hp.txbuf, hp.host,
    ⟨p, by rw [goto_seq_phase, sendBurst, setSent_seq_phase, hp.phase]⟩⟩, hp.glitchCnt, hp.rxbuf⟩

theorem sendStep_quiet (p : SendPos) (s : State) : QuietStep s (sendStep p s) := by
  cases p with
  | clear => exact (rwrite_port _ _ s).quiet _
  | arm => exact (rwrite_port _ _ s).quiet _
  | length => exact (rwrite_port _ _ s).quiet _
  | first =>
    exact (sendBurst_port _ (s.setSent 0) _).of_eq rfl rfl rfl rfl rfl rfl rfl rfl rfl rfl rfl rfl
  | pace => exact (sleep_port s _).quiet _
  | poll =>
    simp only [sendStep, sendPoll]
    split
    · exact (rread_port _ s).quiet _
    · split <;> exact (rread_port _ s).quiet _
  | refill => exact sendBurst_port _ s _
  | wait =>
    simp only [sendStep, sendWait]
    split
    · exact (rread_port _ s).quiet _
    · split <;> exact (rread_port _ s).quiet _
  | stop => exact (rwrite_port _ _ s).quiet _

theorem sentinel_body {s t : State} (h : PortStep s t) (p : Pos) : BodyStep s (t.sentinel.goto p) := by
  unfold State.sentinel
  split <;>
    exact ⟨h.params, h.flags, h.fatal, h.operands, h.ie, h.enc, h.rx, h.txbuf, h.host,
      ⟨p, by simp only [goto_seq_phase, setOutcome_seq_phase, dropGlitch_seq_phase, h.phase]⟩⟩

theorem storeByte_body {s t : State} (h : PortStep s t) (i n : Nat) (v : Byte) (p : Pos) :
    BodyStep s (((t.writeRx i v).setCount n).goto p) :=
  ⟨h.params, h.flags, h.fatal, h.operands, h.ie, h.enc, h.rx, h.txbuf, h.host,
    ⟨p, by rw [goto_seq_phase, setCount_seq_phase, writeRx_seq, h.phase]⟩⟩

theorem setOutcome_body {s t : State} (h : PortStep s t) (o : RxOutcome) (p : Pos) :
    BodyStep s ((t.setOutcome o).goto p) :=
  ⟨h.params, h.flags, h.fatal, h.operands, h.ie, h.enc, h.rx, h.txbuf, h.host,
    ⟨p, by rw [goto_seq_phase, setOutcome_seq_phase, h.phase]⟩⟩

theorem recvStep_body (p : RecvPos) (s : State) : BodyStep s (recvStep p s) := by
  cases p with
  | await => exact ((rawait_port _ s).quiet _).toBodyStep
  | rssi =>
    have hp := rread_port s.params.profile.aRssiValue s
    exact ⟨hp.params, hp.flags, hp.fatal, hp.operands, hp.ie, hp.enc, hp.rx, hp.txbuf, hp.host,
      ⟨.recv .poll, by simp only [recvStep, recvRssi, goto_seq_phase, startReceive_seq_phase, hp.phase]⟩⟩
  | poll =>
    have hp := rread_port s.params.profile.aIrqFlags2 s
    simp only [recvStep, recvPoll]
    split
    · exact (hp.quiet _).toBodyStep
    · split
      · split
        · exact (hp.quiet _).toBodyStep
        · exact setOutcome_body hp _ _
      · exact (hp.quiet _).toBodyStep
  | sleep => exact ⟨rfl, rfl, rfl, rfl, rfl, rfl, rfl, rfl, rfl, ⟨.recv .poll, rfl⟩⟩
  | byte =>
    have hp := rread_port s.params.profile.aFifo s
    simp only [recvStep, recvByte]
    split
    · exact (hp.quiet _).toBodyStep
    · split
      · exact sentinel_body hp _
      · split
        · exact setOutcome_body hp _ _
        · exact storeByte_body hp _ _ _ _
  | clear => exact ((rwrite_port _ _ s).quiet _).toBodyStep

theorem setWrite_quiet (a : RegAddr) (v : Byte) (p : Pos) (s : State) : QuietStep s (setWrite a v p s) :=
  (rwrite_port a v s).quiet p

theorem getmodeRead_quiet (s : State) : QuietStep s (getmodeRead s) := by
  have hp := rread_port s.params.profile.aOpmode s
  exact ⟨⟨hp.params, hp.flags, hp.fatal, hp.operands, hp.ie, hp.enc, hp.rx, hp.txbuf, hp.host,
    ⟨.finish, by rw [getmodeRead, goto_seq_phase, keepOpmode_seq_phase, hp.phase]⟩⟩, hp.glitchCnt, hp.rxbuf⟩

theorem receiveStart_quiet (s : State) : QuietStep s (receiveStart s) := (rwrite_port _ _ s).quiet _

/-- What one block step can do. `commit` stands for the groups a completion writes (R99). -/
inductive BlockMove (s t : State) : Prop where
  | body (h : BodyStep s t)
  | fatal (c : FatalCause) (v : Word) (h : t = s.raiseFatal c v)
  | completePure (e : EncodeGroup) (h : t = State.completePure { s with enc := e })
  | completeDevice (e : EncodeGroup) (r : ReceiveGroup) (h : t = State.completeDevice { s with enc := e, rx := r })

theorem gate_move {gated body : State → State} {s : State}
    (hg : ∃ e r, gated s = { s with enc := e, rx := r }) (hb : BodyStep s (body s)) :
    BlockMove s (s.gate gated body) := by
  unfold State.gate
  split
  · obtain ⟨e, r, h⟩ := hg
    exact .completeDevice e r (by rw [h])
  · exact .body hb

/-- One block step of any command is one of the four moves. -/
theorem exec_move {i : Instr} {s t : State} (h : exec i s = .next t) : BlockMove s t := by
  have hid : ∃ e r, id s = { s with enc := e, rx := r } := ⟨s.enc, s.rx, rfl⟩
  have hno : ∃ e r, State.rxNoOp s = { s with enc := e, rx := r } := ⟨s.enc, _, rfl⟩
  cases i <;> simp only [exec] at h
  case nop => cases h; exact .completePure s.enc rfl
  case freqEnc => cases h; exact .completePure _ rfl
  case freqDec => cases h; exact .completePure _ rfl
  case brEnc =>
    simp only [execBrEnc] at h
    split at h <;> cases h
    · exact .fatal _ _ rfl
    · exact .completePure _ rfl
  case brDec =>
    simp only [execBrDec] at h
    split at h <;> cases h
    · exact .fatal _ _ rfl
    · exact .completePure _ rfl
  case bwEnc => cases h; exact .completePure _ rfl
  case bwDec =>
    simp only [execBwDec] at h
    split at h <;> cases h
    · exact .fatal _ _ rfl
    · exact .completePure _ rfl
  case setFreq =>
    unfold execSetFreq at h
    split at h <;> cases h
    · exact gate_move hid (setWrite_quiet _ _ _ s).toBodyStep
    · exact .body (setWrite_quiet _ _ _ s).toBodyStep
    · exact .body (setWrite_quiet _ _ _ s).toBodyStep
    · exact .completeDevice _ s.rx rfl
  case setBr =>
    unfold execSetBr at h
    split at h <;> cases h
    · split
      · exact .fatal _ _ rfl
      · exact gate_move hid (setWrite_quiet _ _ _ s).toBodyStep
    · exact .body (setWrite_quiet _ _ _ s).toBodyStep
    · exact .completeDevice _ s.rx rfl
  case setBw =>
    unfold execSetBw at h
    split at h <;> cases h
    · exact gate_move hid (setWrite_quiet _ _ _ s).toBodyStep
    · exact .completeDevice _ s.rx rfl
  case setmode m =>
    unfold execSetmode at h
    split at h
    · split at h <;> cases h
      · exact .body (modeEnter_quiet _ _ s).toBodyStep
      · exact .body (modeStep_quiet _ _ _ s).toBodyStep
      · exact .completeDevice s.enc s.rx rfl
    · cases h; exact .fatal _ _ rfl
  case getmode =>
    unfold execGetmode at h
    split at h <;> cases h
    · exact gate_move hid (getmodeRead_quiet s).toBodyStep
    · exact .completeDevice _ s.rx rfl
  case send =>
    unfold execSend at h
    split at h <;> cases h
    · unfold sendStart
      split
      · exact .fatal _ _ rfl
      · exact gate_move hid (sendBodyStart_quiet s).toBodyStep
    · exact .body (modeStep_quiet _ _ _ s).toBodyStep
    · exact .body (sendStep_quiet _ s).toBodyStep
    · exact .body (modeStep_quiet _ _ _ s).toBodyStep
    · exact .completeDevice s.enc s.rx rfl
  case recv =>
    unfold execRecv at h
    split at h <;> cases h
    · exact gate_move hno (receiveStart_quiet s).toBodyStep
    · exact .body (modeStep_quiet _ _ _ s).toBodyStep
    · exact .body (recvStep_body _ s)
    · exact .body (modeStep_quiet _ _ _ s).toBodyStep
    · exact .completeDevice s.enc _ rfl
  case sendrecv =>
    unfold execSendrecv at h
    split at h <;> cases h
    · unfold sendStart
      split
      · exact .fatal _ _ rfl
      · exact gate_move hno (sendBodyStart_quiet s).toBodyStep
    · exact .body (modeStep_quiet _ _ _ s).toBodyStep
    · exact .body (sendStep_quiet _ s).toBodyStep
    · exact .body (modeStep_quiet _ _ _ s).toBodyStep
    · exact gate_move hno (receiveStart_quiet s).toBodyStep
    · exact .body (modeStep_quiet _ _ _ s).toBodyStep
    · exact .body (recvStep_body _ s)
    · exact .body (modeStep_quiet _ _ _ s).toBodyStep
    · exact .completeDevice s.enc _ rfl

/-- A step that leaves the command running writes no group, no STATUS bit and no fatal register (R65, R99). -/
theorem exec_running {i : Instr} {s t : State} (h : exec i s = .next t) (hr : t.seq.phase ≠ .idle) : BodyStep s t := by
  cases exec_move h with
  | body b => exact b
  | fatal c v h => exact absurd (by rw [h]; rfl) hr
  | completePure e h => exact absurd (by rw [h]; rfl) hr
  | completeDevice e r h => exact absurd (by rw [h]; rfl) hr

end Sys2Proof.Machine
end

