-- ==== Sys2Proof/Laws/Host.lean ====
section
/-! SUPPORT. The host side, said once: what stands at each offset of the window (R22), and that the host's turn is the host's
action. -/

namespace Sys2Proof.Machine

open Sys2Proof.Config

/-- Each register stands at its offset (R22). -/
@[simp] theorem targetOf_offset (p : Params) (r : Csr) : targetOf p r.offset = .csr r := by cases r <;> rfl

/-- Each entry of TXBUF stands at its offset (R22, R45). -/
theorem targetOf_txbuf {p : Params} {k : Nat} (hk : k < p.maxPacket) (hp : p.maxPacket ≤ 1024) :
    targetOf p (0x1000 + 4 * k) = .txbuf k := by
  have h1 : ¬ 0x1000 + 4 * k < 0x1000 := by omega
  have h2 : 0x1000 + 4 * k < 0x2000 := by omega
  have h3 : (0x1000 + 4 * k - 0x1000) / 4 = k := by omega
  simp only [targetOf, h1, h2, h3, hk, if_true, if_false]

/-- Each entry of RXBUF stands at its offset (R22, R45). -/
theorem targetOf_rxbuf {p : Params} {k : Nat} (hk : k < p.rxbufSize) (hp : p.rxbufSize ≤ 1024) :
    targetOf p (0x2000 + 4 * k) = .rxbuf k := by
  have h1 : ¬ 0x2000 + 4 * k < 0x1000 := by omega
  have h2 : ¬ 0x2000 + 4 * k < 0x2000 := by omega
  have h3 : 0x2000 + 4 * k < 0x3000 := by omega
  have h4 : (0x2000 + 4 * k - 0x2000) / 4 = k := by omega
  simp only [targetOf, h1, h2, h3, h4, hk, if_true, if_false]

/-- On the host's turn a step is the host's action. -/
theorem step_host {s : State} {op : HostOp} (hw : s.params.wf = true) (hh : s.hostTurn = some op) :
    step s = hostStep op s.popHost := by
  simp only [step, hw, hh, if_true]

/-- A host write at a window offset. -/
theorem step_hostWrite {s : State} {a v : Word} {off : Nat} (hw : s.params.wf = true)
    (hh : s.hostTurn = some (.write 32 a v)) (ha : accessOffset s.params 32 a = some off) :
    step s = .next (s.popHost.targetWrite (targetOf s.params off) v) := by
  have ha' : accessOffset s.popHost.params 32 a = some off := ha
  rw [step_host hw hh]
  simp only [hostStep, ha']
  rfl

/-- A host read at a window offset. -/
theorem step_hostRead {s : State} {a : Word} {off : Nat} (hw : s.params.wf = true)
    (hh : s.hostTurn = some (.read 32 a)) (ha : accessOffset s.params 32 a = some off) :
    step s = .next (s.popHost.returnRead (s.targetRead (targetOf s.params off))) := by
  have ha' : accessOffset s.popHost.params 32 a = some off := ha
  rw [step_host hw hh]
  simp only [hostStep, ha']
  rfl

/-- A statement's access reaches the offset its name stands for. -/
theorem accessOffset_busAddr {p : Params} {off : Nat} (hp : p.wf = true) (ho : off < 0x4000) (ha : off % 4 = 0) :
    accessOffset p 32 (busAddr p off) = some off := by
  have hb : p.base.toNat % 0x4000 = 0 := by
    simp only [Params.wf, Bool.and_eq_true, beq_iff_eq] at hp
    exact hp.2
  have hlt := p.base.isLt
  have e : (busAddr p off).toNat = p.base.toNat + off := by
    rw [busAddr, BitVec.toNat_add, BitVec.toNat_ofNat]
    omega
  rw [accessOffset, e, if_pos ⟨rfl, by omega, by omega, by omega⟩]
  simp

/-- A schedule changes no statement. -/
theorem withSchedule_ops (ds : List Nat) (es : List HostEvent) :
    (withSchedule ds es).map HostEvent.op = es.map HostEvent.op := by
  induction es generalizing ds with
  | nil => rw [withSchedule]
  | cons e es ih => cases ds with
    | nil => rfl
    | cons d ds => rw [withSchedule, List.map_cons, List.map_cons, ih]

end Sys2Proof.Machine
end

