-- ==== Sys2Proof/Laws/Memory.lean ====
section
/-! SUPPORT. The byte arrays: read after write, and every write keeps the canonical form and the bound. -/

namespace Sys2Proof.Machine

@[simp] theorem memRead_nil (i : Nat) : memRead [] i = 0 := rfl

theorem memRead_cons (a : Nat) (b : Byte) (m : Memory) (i : Nat) :
    memRead ((a, b) :: m) i = if a = i then b else memRead m i := rfl

/-- In canonical form every index after the first entry is larger. -/
theorem wf_cons_lt {a : Nat} {b : Byte} {m : Memory} (h : Memory.wf ((a, b) :: m) = true) :
    b ≠ 0 ∧ Memory.wf m = true ∧ ∀ c ∈ m, a < c.1 := by
  induction m generalizing a b with
  | nil => simp [Memory.wf] at h ⊢; exact h
  | cons c m ih =>
    obtain ⟨a', b'⟩ := c
    simp only [Memory.wf, Bool.and_eq_true, bne_iff_ne, decide_eq_true_eq] at h
    obtain ⟨⟨hb, hlt⟩, hm⟩ := h
    refine ⟨hb, hm, fun c hc => ?_⟩
    rcases List.mem_cons.mp hc with rfl | hc
    · exact hlt
    · exact lt_trans hlt ((ih hm).2.2 c hc)

/-- Canonical form from its parts. -/
theorem wf_cons {a : Nat} {b : Byte} {m : Memory} (hb : b ≠ 0) (hm : Memory.wf m = true) (h : ∀ c ∈ m, a < c.1) :
    Memory.wf ((a, b) :: m) = true := by
  cases m with
  | nil => simpa [Memory.wf] using hb
  | cons c m =>
    obtain ⟨a', b'⟩ := c
    simpa [Memory.wf, hm, h (a', b') (by simp)] using hb

/-- An index below every listed one reads 0x00. -/
theorem memRead_of_lt {m : Memory} {i : Nat} (h : ∀ c ∈ m, i < c.1) : memRead m i = 0 := by
  induction m with
  | nil => rfl
  | cons c m ih =>
    obtain ⟨a, b⟩ := c
    have ha : i < a := h (a, b) (by simp)
    rw [memRead_cons, if_neg (by omega)]
    exact ih fun c hc => h c (List.mem_cons_of_mem _ hc)

theorem mem_memErase {m : Memory} {i : Nat} {c : Host.Cell} (h : c ∈ memErase m i) : c ∈ m := by
  induction m with
  | nil => simp [memErase] at h
  | cons d m ih =>
    obtain ⟨a, b⟩ := d
    simp only [memErase] at h
    split at h
    · exact List.mem_cons_of_mem _ h
    · rcases List.mem_cons.mp h with rfl | h
      · simp
      · exact List.mem_cons_of_mem _ (ih h)

theorem mem_memInsert {m : Memory} {i : Nat} {v : Byte} {c : Host.Cell} (h : c ∈ memInsert m i v) :
    c = (i, v) ∨ c ∈ m := by
  induction m with
  | nil => simpa [memInsert] using h
  | cons d m ih =>
    obtain ⟨a, b⟩ := d
    simp only [memInsert] at h
    split at h
    · rcases List.mem_cons.mp h with rfl | h
      · exact .inl rfl
      · exact .inr h
    · split at h
      · rcases List.mem_cons.mp h with rfl | h
        · exact .inl rfl
        · exact .inr (List.mem_cons_of_mem _ h)
      · rcases List.mem_cons.mp h with rfl | h
        · exact .inr (by simp)
        · exact (ih h).imp id (List.mem_cons_of_mem _)

/-- A written byte's cell was listed before, or is the written one (R62). -/
theorem mem_memWrite {m : Memory} {i : Nat} {v : Byte} {c : Host.Cell} (h : c ∈ memWrite m i v) :
    c = (i, v) ∨ c ∈ m := by
  unfold memWrite at h
  split at h
  · exact .inr (mem_memErase h)
  · exact mem_memInsert h

theorem memErase_wf {m : Memory} (i : Nat) (h : Memory.wf m = true) : Memory.wf (memErase m i) = true := by
  induction m with
  | nil => rfl
  | cons d m ih =>
    obtain ⟨a, b⟩ := d
    obtain ⟨hb, hm, hlt⟩ := wf_cons_lt h
    simp only [memErase]
    split
    · exact hm
    · exact wf_cons hb (ih hm) fun c hc => hlt c (mem_memErase hc)

theorem memInsert_wf {m : Memory} (i : Nat) {v : Byte} (hv : v ≠ 0) (h : Memory.wf m = true) :
    Memory.wf (memInsert m i v) = true := by
  induction m with
  | nil => simpa [memInsert, Memory.wf] using hv
  | cons d m ih =>
    obtain ⟨a, b⟩ := d
    obtain ⟨hb, hm, hlt⟩ := wf_cons_lt h
    simp only [memInsert]
    split
    · rename_i hi
      refine wf_cons hv h fun c hc => ?_
      rcases List.mem_cons.mp hc with rfl | hc
      · exact hi
      · exact lt_trans hi (hlt c hc)
    · split
      · rename_i _ hi
        exact wf_cons hv hm fun c hc => hi ▸ hlt c hc
      · rename_i h1 h2
        refine wf_cons hb (ih hm) fun c hc => ?_
        rcases mem_memInsert hc with rfl | hc
        · show a < i
          omega
        · exact hlt c hc

/-- Every write keeps the canonical form. -/
theorem memWrite_wf {m : Memory} (i : Nat) (v : Byte) (h : Memory.wf m = true) : Memory.wf (memWrite m i v) = true := by
  unfold memWrite
  split
  · exact memErase_wf i h
  · exact memInsert_wf i ‹_› h

/-- A write inside the array stays inside it. -/
theorem memWrite_below {m : Memory} {n i : Nat} (v : Byte) (hi : i < n) (h : Memory.below n m = true) :
    Memory.below n (memWrite m i v) = true := by
  simp only [Memory.below, List.all_eq_true, decide_eq_true_eq] at h ⊢
  intro c hc
  rcases mem_memWrite hc with rfl | hc
  · exact hi
  · exact h c hc

theorem memRead_memErase {m : Memory} (i j : Nat) (h : Memory.wf m = true) :
    memRead (memErase m i) j = if j = i then 0 else memRead m j := by
  induction m with
  | nil => simp [memErase]
  | cons d m ih =>
    obtain ⟨a, b⟩ := d
    obtain ⟨-, hm, hlt⟩ := wf_cons_lt h
    simp only [memErase]
    by_cases ha : a = i
    · subst ha
      by_cases hj : j = a
      · subst hj
        simpa using memRead_of_lt hlt
      · simp [memRead_cons, hj, Ne.symm hj]
    · rw [if_neg ha, memRead_cons, memRead_cons, ih hm]
      by_cases hj : a = j
      · subst hj
        simp [ha]
      · simp [hj]

theorem memRead_memInsert {m : Memory} (i j : Nat) (v : Byte) (h : Memory.wf m = true) :
    memRead (memInsert m i v) j = if j = i then v else memRead m j := by
  induction m with
  | nil => simp [memInsert, memRead_cons, eq_comm]
  | cons d m ih =>
    obtain ⟨a, b⟩ := d
    obtain ⟨-, hm, -⟩ := wf_cons_lt h
    simp only [memInsert]
    by_cases h1 : i < a
    · rw [if_pos h1, memRead_cons]
      by_cases hj : j = i
      · simp [hj]
      · simp [hj, Ne.symm hj]
    · rw [if_neg h1]
      by_cases h2 : i = a
      · subst h2
        rw [if_pos rfl, memRead_cons, memRead_cons]
        by_cases hj : i = j
        · simp [hj]
        · simp [hj, Ne.symm hj]
      · rw [if_neg h2, memRead_cons, memRead_cons, ih hm]
        by_cases hj : a = j
        · subst hj
          simp [Ne.symm h2]
        · simp [hj]

/-- Read after write: the written index reads the written byte, every other index reads as before. -/
theorem memRead_memWrite {m : Memory} (i j : Nat) (v : Byte) (h : Memory.wf m = true) :
    memRead (memWrite m i v) j = if j = i then v else memRead m j := by
  unfold memWrite
  split
  · rename_i hv
    rw [memRead_memErase i j h, hv]
  · exact memRead_memInsert i j v h

/-- A write changes no other index, in canonical form or not. -/
theorem memRead_memWrite_ne (m : Memory) {i j : Nat} (v : Byte) (h : j ≠ i) :
    memRead (memWrite m i v) j = memRead m j := by
  unfold memWrite
  induction m with
  | nil => split <;> simp [memErase, memInsert, memRead_cons, Ne.symm h]
  | cons d m ih =>
    obtain ⟨a, b⟩ := d
    simp only [memErase, memInsert]
    by_cases ha : a = j
    · subst ha
      split <;> (try split) <;> (try split) <;> simp_all [memRead_cons, Ne.symm h]
    · split <;> (try split) <;> (try split) <;> simp_all [memRead_cons, Ne.symm h]

end Sys2Proof.Machine
end

