-- ==== Sys2Proof/Laws/Mode.lean ====
section
/-! SUPPORT. A `SetMode` is the same code in every command that calls it (R141, R142): one lemma says what a step of any
call is, so that a claim about `modeStep` reaches every command. -/

namespace Sys2Proof.Machine

open Sys2Proof.Config

/-- Bit 8 of CFG, as a host reads it, is IDLE (R36). -/
theorem csrRead_cfg_idle (s : State) : (s.csrRead .cfg).getLsbD 8 = s.operands.idle := by
  have h : s.operands.thresh.getLsbD 8 = false := BitVec.getLsbD_of_ge _ _ (by omega)
  simp only [State.csrRead, State.cfgWord, flagBit, BitVec.getLsbD_or, BitVec.getLsbD_setWidth, h]
  cases s.operands.idle <;> simp

/-- The mode `SettleIdle` goes to (R142). -/
theorem idleMode_eq (s : State) : s.idleMode = if (s.csrRead .cfg).getLsbD 8 then 1 else 0 := by
  rw [csrRead_cfg_idle]
  rfl

/-- The target of a call depends on the operands alone. -/
theorem CallsMode.of_operands {i : Instr} {c : ModeCall} {m : BitVec 3} {s t : State} (h : CallsMode i c m s)
    (ho : t.operands = s.operands) : CallsMode i c m t := by
  have hc : t.csrRead .cfg = s.csrRead .cfg := by simp only [State.csrRead, State.cfgWord, ho]
  cases c <;> simpa only [CallsMode, hc] using h

/-- A step of a command at a position of its call `c` is that step of `SetMode`. -/
theorem CallsMode.exec_eq {i : Instr} {c : ModeCall} {m : BitVec 3} {s : State} {p : ModeStep} (h : CallsMode i c m s)
    (hp : s.pos = some (.mode c p)) : exec i s = .next (modeStep m c p s) := by
  obtain ⟨w, hp⟩ := pos_eq_some.mp hp
  cases c
  · obtain ⟨rfl, h⟩ := h
    simp only [exec, execSetmode, hp, h, if_true]
  · obtain ⟨rfl | rfl, rfl⟩ := h <;> simp only [exec, execSend, execSendrecv, hp] <;> rfl
  · rw [CallsMode, ← idleMode_eq] at h
    obtain ⟨rfl | rfl, rfl⟩ := h <;> simp only [exec, execSend, execSendrecv, hp]
  · obtain ⟨rfl | rfl, rfl⟩ := h <;> simp only [exec, execRecv, execSendrecv, hp] <;> rfl
  · rw [CallsMode, ← idleMode_eq] at h
    obtain ⟨rfl | rfl, rfl⟩ := h <;> simp only [exec, execRecv, execSendrecv, hp]

end Sys2Proof.Machine
end

