-- ==== Sys2Proof/Laws/PerInstr.lean ====
section
/-! SUPPORT. The family of statements made per instruction: the shape of its command word (R90, R91). -/

namespace Sys2Proof.Laws.EncodingShape

/-- The word of a command carries its OP and its MODE field and zeros in RSV (R90), and only SETMODE has a MODE field
that may differ from 0. -/
def Statement (i : Instr) : Prop :=
  opField (encode i) = i.opcode ∧ modeField (encode i) = i.modeBits ∧ rsvField (encode i) = 0
    ∧ ((∀ m, i ≠ .setmode m) → i.modeBits = 0)

theorem nop : Statement .nop := ⟨by decide, by decide, by decide, fun _ => rfl⟩

theorem freqEnc : Statement .freqEnc := ⟨by decide, by decide, by decide, fun _ => rfl⟩

theorem freqDec : Statement .freqDec := ⟨by decide, by decide, by decide, fun _ => rfl⟩

theorem brEnc : Statement .brEnc := ⟨by decide, by decide, by decide, fun _ => rfl⟩

theorem brDec : Statement .brDec := ⟨by decide, by decide, by decide, fun _ => rfl⟩

theorem bwEnc : Statement .bwEnc := ⟨by decide, by decide, by decide, fun _ => rfl⟩

theorem bwDec : Statement .bwDec := ⟨by decide, by decide, by decide, fun _ => rfl⟩

theorem setFreq : Statement .setFreq := ⟨by decide, by decide, by decide, fun _ => rfl⟩

theorem setBr : Statement .setBr := ⟨by decide, by decide, by decide, fun _ => rfl⟩

theorem setBw : Statement .setBw := ⟨by decide, by decide, by decide, fun _ => rfl⟩

/-- SETMODE's fields, at each of the eight values of MODE. -/
theorem setmode_fields : ∀ m : BitVec 3, opField (encode (.setmode m)) = 0x20 ∧ modeField (encode (.setmode m)) = m
    ∧ rsvField (encode (.setmode m)) = 0 := by decide

theorem setmode (m : BitVec 3) : Statement (.setmode m) :=
  ⟨(setmode_fields m).1, (setmode_fields m).2.1, (setmode_fields m).2.2, fun h => absurd rfl (h m)⟩

theorem getmode : Statement .getmode := ⟨by decide, by decide, by decide, fun _ => rfl⟩

theorem send : Statement .send := ⟨by decide, by decide, by decide, fun _ => rfl⟩

theorem recv : Statement .recv := ⟨by decide, by decide, by decide, fun _ => rfl⟩

theorem sendrecv : Statement .sendrecv := ⟨by decide, by decide, by decide, fun _ => rfl⟩

end Sys2Proof.Laws.EncodingShape
end

