-- ==== Sys2Proof/Laws/Receive.lean ====
section
/-! SUPPORT. When a block step changes GLITCHCNT or a byte of RXBUF, said once for all commands (R65, R187, R188). -/

namespace Sys2Proof.Machine

open Sys2Proof.Config

/-- What a block step can change on the receive side while the command runs on: GLITCHCNT only by reading the sentinel, a byte of
RXBUF only by reading a non-zero byte, and only the one at the count (R65, R187, R188). -/
structure RxMoves (s t : State) : Prop where
  glitch : t.glitchCnt ≠ s.glitchCnt → s.pos = some (.recv .byte) ∧ s.errLatched = false ∧ s.nextAnswer = .ok 0
  bytes : ∀ a, memRead t.rxbuf a ≠ memRead s.rxbuf a → s.pos = some (.recv .byte) ∧ a = s.seq.count
      ∧ s.errLatched = false ∧ ∃ b, b ≠ 0 ∧ s.nextAnswer = .ok b

theorem RxMoves.of_eq {s t : State} (h1 : t.glitchCnt = s.glitchCnt) (h2 : t.rxbuf = s.rxbuf) : RxMoves s t :=
  ⟨fun h => absurd h1 h, fun a h => absurd (by rw [h2]) h⟩

theorem commitPure_rxMoves (res : Word) (range : Bool) (s : State) : RxMoves s (s.commitEncode res range).completePure :=
  .of_eq rfl rfl

theorem setFinish_rxMoves (res : Nat) (range : Bool) (s : State) : RxMoves s (setFinish res range s) := .of_eq rfl rfl

theorem raiseFatal_rxMoves (c : FatalCause) (v : Word) (s : State) : RxMoves s (s.raiseFatal c v) := .of_eq rfl rfl

/-- The one step that changes them: the read of a byte of the FIFO (R187, R188). -/
theorem recvByte_rxMoves {s : State} (hp : s.pos = some (.recv .byte)) : RxMoves s (recvByte s) := by
  have h := rread_port s.params.profile.aFifo s
  cases he : s.errLatched
  case true =>
    have : recvByte s = s.goto (.mode .recvSettle .enter) := by simp [recvByte, rread_latched he, he]
    rw [this]; exact .of_eq rfl rfl
  cases ha : s.nextAnswer with
  | fail =>
    have : recvByte s = (rread s.params.profile.aFifo s).goto (.mode .recvSettle .enter) := by
      simp [recvByte, rread_fail he ha]
    rw [this]; exact .of_eq h.glitchCnt h.rxbuf
  | ok b =>
    simp only [recvByte, rread_ok he ha, rreadByte_ok he ha, errLatched_transact, he]
    rw [if_neg (by simp)]
    split
    · rename_i hb
      subst hb
      refine ⟨fun _ => ⟨hp, he, ha⟩, fun a h => absurd ?_ h⟩
      unfold State.sentinel
      split <;> rfl
    · rename_i hb
      split
      · exact .of_eq rfl rfl
      · refine ⟨fun h => absurd rfl h, fun a h => ⟨hp, ?_, he, b, hb, ha⟩⟩
        by_contra hne
        exact h (memRead_memWrite_ne _ _ hne)

theorem recvStep_rxMoves {p : RecvPos} {s : State} (hp : s.pos = some (.recv p)) : RxMoves s (recvStep p s) := by
  cases p with
  | await => exact .of_eq (rawait_port _ s).glitchCnt (rawait_port _ s).rxbuf
  | rssi => exact .of_eq (rread_port _ s).glitchCnt (rread_port _ s).rxbuf
  | poll =>
    have h := rread_port s.params.profile.aIrqFlags2 s
    simp only [recvStep, recvPoll]
    (repeat' split) <;> exact .of_eq h.glitchCnt h.rxbuf
  | sleep => exact .of_eq rfl rfl
  | byte => exact recvByte_rxMoves hp
  | clear => exact .of_eq (rwrite_port _ _ s).glitchCnt (rwrite_port _ _ s).rxbuf

theorem QuietStep.rxMoves {s t : State} (h : QuietStep s t) : RxMoves s t := .of_eq h.glitchCnt h.rxbuf

/-- Behind the gate: gated, neither changes (R191); otherwise the body is a quiet step. -/
theorem gate_rxMoves {gated body : State → State} {s : State} (h1 : (gated s).glitchCnt = s.glitchCnt)
    (h2 : (gated s).rxbuf = s.rxbuf) (h : QuietStep s (body s)) : RxMoves s (s.gate gated body) := by
  unfold State.gate
  split
  · exact .of_eq h1 h2
  · exact h.rxMoves

theorem sendStart_rxMoves {gated : State → State} {s : State} (h1 : (gated s).glitchCnt = s.glitchCnt)
    (h2 : (gated s).rxbuf = s.rxbuf) : RxMoves s (sendStart gated s) := by
  unfold sendStart
  split
  · exact .of_eq rfl rfl
  · exact gate_rxMoves h1 h2 (sendBodyStart_quiet s)

/-- One block step of any command. -/
theorem exec_rxMoves {i : Instr} {s t : State} (h : exec i s = .next t) : RxMoves s t := by
  have pos : ∀ {w p}, s.seq.phase = .running w p → s.pos = some p := fun hq => pos_eq_some.mpr ⟨_, hq⟩
  cases i <;> simp only [exec] at h
  case nop => cases h; exact .of_eq rfl rfl
  case freqEnc | freqDec | bwEnc => cases h; exact commitPure_rxMoves _ _ s
  case brEnc =>
    simp only [execBrEnc] at h
    split at h <;> cases h
    · exact raiseFatal_rxMoves _ _ s
    · exact commitPure_rxMoves _ _ s
  case brDec =>
    simp only [execBrDec] at h
    split at h <;> cases h
    · exact raiseFatal_rxMoves _ _ s
    · exact commitPure_rxMoves _ _ s
  case bwDec =>
    simp only [execBwDec] at h
    split at h <;> cases h
    · exact raiseFatal_rxMoves _ _ s
    · exact commitPure_rxMoves _ _ s
  case setFreq =>
    unfold execSetFreq at h
    split at h <;> cases h
    · exact gate_rxMoves rfl rfl (setWrite_quiet _ _ _ s)
    · exact (setWrite_quiet _ _ _ s).rxMoves
    · exact (setWrite_quiet _ _ _ s).rxMoves
    · exact setFinish_rxMoves _ _ s
  case setBr =>
    unfold execSetBr at h
    split at h <;> cases h
    · split
      · exact raiseFatal_rxMoves _ _ s
      · exact gate_rxMoves rfl rfl (setWrite_quiet _ _ _ s)
    · exact (setWrite_quiet _ _ _ s).rxMoves
    · exact setFinish_rxMoves _ _ s
  case setBw =>
    unfold execSetBw at h
    split at h <;> cases h
    · exact gate_rxMoves rfl rfl (setWrite_quiet _ _ _ s)
    · exact setFinish_rxMoves _ _ s
  case setmode m =>
    unfold execSetmode at h
    split at h
    · split at h <;> cases h
      · exact (modeEnter_quiet _ _ s).rxMoves
      · exact (modeStep_quiet _ _ _ s).rxMoves
      · exact .of_eq rfl rfl
    · cases h; exact .of_eq rfl rfl
  case getmode =>
    unfold execGetmode at h
    split at h <;> cases h
    · exact gate_rxMoves rfl rfl (getmodeRead_quiet s)
    · exact setFinish_rxMoves _ _ s
  case send =>
    unfold execSend at h
    split at h <;> cases h
    · exact sendStart_rxMoves rfl rfl
    · exact (modeStep_quiet _ _ _ s).rxMoves
    · exact (sendStep_quiet _ s).rxMoves
    · exact (modeStep_quiet _ _ _ s).rxMoves
    · exact .of_eq rfl rfl
  case recv =>
    unfold execRecv at h
    split at h <;> cases h
    case h_1 => exact gate_rxMoves rfl rfl (receiveStart_quiet s)
    case h_2 => exact (modeStep_quiet _ _ _ s).rxMoves
    case h_3 hq => exact recvStep_rxMoves (pos hq)
    case h_4 => exact (modeStep_quiet _ _ _ s).rxMoves
    case h_5 => exact .of_eq rfl rfl
  case sendrecv =>
    unfold execSendrecv at h
    split at h <;> cases h
    case h_1 => exact sendStart_rxMoves rfl rfl
    case h_2 => exact (modeStep_quiet _ _ _ s).rxMoves
    case h_3 => exact (sendStep_quiet _ s).rxMoves
    case h_4 => exact (modeStep_quiet _ _ _ s).rxMoves
    case h_5 => exact gate_rxMoves rfl rfl (receiveStart_quiet s)
    case h_6 => exact (modeStep_quiet _ _ _ s).rxMoves
    case h_7 hq => exact recvStep_rxMoves (pos hq)
    case h_8 => exact (modeStep_quiet _ _ _ s).rxMoves
    case h_9 => exact .of_eq rfl rfl
end Sys2Proof.Machine
end

