-- ==== Sys2Proof/Laws/Record.lean ====
section
/-! SUPPORT. What one block step does on the radio port, said once: no transaction, or one, whose failure is latched in the
same step (R67 to R70, R211); and one only while ERR = 0, unless the step is the first of a `SetMode` (R141). -/

namespace Sys2Proof.Machine

open Sys2Proof.Config

/-- No transaction from `s` to `t`; the record may show a sleep. -/
structure NoTxn (s t : State) : Prop where
  drawn : t.radio.drawn = s.radio.drawn
  answers : t.radio.answers = s.radio.answers
  err : t.err = s.err
  xerr : t.seq.xerr = s.seq.xerr
  log : ∀ x, t.radio.log = x :: s.radio.log → failedTxn x = none

/-- One transaction from `s` to `t`: its failure is latched, and without one ERR is 0 and ERRADDR and xerr are kept. -/
structure OneTxn (s t : State) : Prop where
  drawn : t.radio.drawn = s.radio.drawn + 1
  latched : ∀ x k a, t.radio.log = x :: s.radio.log → failedTxn x = some (k, a) → LatchedAt k a t ∧ t.seq.xerr = true
  outcome : (t.err = { s.err with slot := .none } ∧ t.seq.xerr = s.seq.xerr) ∨ LatchesFailure s t

theorem LatchesFailure.trans_eq {s t u : State} (h : LatchesFailure s t) (h1 : u.radio = t.radio) (h2 : u.err = t.err)
    (h3 : u.seq.xerr = t.seq.xerr) : LatchesFailure s u := by
  obtain ⟨x, k, a, hx, hf, hl, hr⟩ := h
  exact ⟨x, k, a, by rw [h1, hx], hf, by unfold LatchedAt; rw [h2]; exact hl, by rw [h3, hr]⟩

/-- With no error latched, clearing the latch changes nothing. -/
theorem err_slot_none {s : State} (h : s.errLatched = false) : { s.err with slot := .none } = s.err := by
  have hs : s.err.slot = .none := by
    cases hs : s.err.slot with
    | none => rfl
    | transport => simp [State.errLatched, hs] at h
  rw [← hs]

/-- The rule of R67 to R70: a transaction is made only while ERR = 0. -/
def GuardedTxn (s t : State) : Prop := NoTxn s t ∨ (s.errLatched = false ∧ OneTxn s t)

theorem NoTxn.of_eq {s t : State} (h1 : t.radio = s.radio) (h2 : t.err = s.err) (h3 : t.seq.xerr = s.seq.xerr) :
    NoTxn s t :=
  ⟨by rw [h1], by rw [h1], h2, h3, fun x h => absurd (h1 ▸ h) (by simp)⟩

/-- What follows a transaction within the step touches neither the port nor the latch. -/
theorem OneTxn.trans_eq {s t u : State} (h : OneTxn s t) (h1 : u.radio = t.radio) (h2 : u.err = t.err)
    (h3 : u.seq.xerr = t.seq.xerr) : OneTxn s u :=
  ⟨by rw [h1, h.drawn], fun x k a hx hf => by
    have := h.latched x k a (h1 ▸ hx) hf
    exact ⟨by unfold LatchedAt; rw [h2]; exact this.1, by rw [h3]; exact this.2⟩,
    h.outcome.imp (fun o => ⟨by rw [h2, o.1], by rw [h3, o.2]⟩) fun l => l.trans_eq h1 h2 h3⟩

theorem GuardedTxn.trans_eq {s t u : State} (h : GuardedTxn s t) (h1 : u.radio = t.radio) (h2 : u.err = t.err)
    (h3 : u.seq.xerr = t.seq.xerr) : GuardedTxn s u :=
  h.imp (fun n => ⟨by rw [h1, n.drawn], by rw [h1, n.answers], by rw [h2, n.err], by rw [h3, n.xerr],
      fun x hx => n.log x (h1 ▸ hx)⟩)
    fun o => ⟨o.1, o.2.trans_eq h1 h2 h3⟩

theorem GuardedTxn.goto {s t : State} (h : GuardedTxn s t) (p : Pos) : GuardedTxn s (t.goto p) := h.trans_eq rfl rfl rfl

theorem GuardedTxn.setOutcome {s t : State} (h : GuardedTxn s t) (o : RxOutcome) : GuardedTxn s (t.setOutcome o) :=
  h.trans_eq rfl rfl rfl

theorem GuardedTxn.sentinel {s t : State} (h : GuardedTxn s t) : GuardedTxn s t.sentinel := by
  unfold State.sentinel
  split <;> exact h.trans_eq rfl rfl rfl

theorem GuardedTxn.store {s t : State} (h : GuardedTxn s t) (i n : Nat) (v : Byte) :
    GuardedTxn s ((t.writeRx i v).setCount n) := h.trans_eq rfl rfl rfl

/-- Hidden state set before the transaction does not matter. -/
theorem GuardedTxn.of_eq {s s' t : State} (h : GuardedTxn s' t) (h1 : s'.radio = s.radio) (h2 : s'.err = s.err)
    (h3 : s'.seq.xerr = s.seq.xerr) : GuardedTxn s t :=
  h.imp (fun n => ⟨by rw [← h1, n.drawn], by rw [← h1, n.answers], by rw [← h2, n.err], by rw [← h3, n.xerr],
      fun x hx => n.log x (h1 ▸ hx)⟩)
    fun o => ⟨by unfold State.errLatched; rw [← h2]; exact o.1, by rw [← h1, o.2.drawn],
      fun x k a hx => o.2.latched x k a (h1 ▸ hx),
      o.2.outcome.imp (fun e => ⟨by rw [← h2, e.1], by rw [← h3, e.2]⟩)
        fun ⟨x, k, a, hx, l⟩ => ⟨x, k, a, by rw [← h1, hx], l⟩⟩

theorem guarded_of_eq {s t : State} (h1 : t.radio = s.radio) (h2 : t.err = s.err) (h3 : t.seq.xerr = s.seq.xerr) :
    GuardedTxn s t := .inl (.of_eq h1 h2 h3)

/-- One transaction and its latch. -/
theorem transact_oneTxn {s : State} (h : s.errLatched = false) (x : Txn) (k : TxnKind) (a : RegAddr) (ans : RadioAnswer)
    (hf : ans = .fail → failedTxn x = some (k, a)) (ho : ∀ b, ans = .ok b → failedTxn x = none) :
    OneTxn s ((s.transact x).latchIfFailed a k ans) := by
  cases ans with
  | ok b =>
    refine ⟨rfl, fun y k' a' hy hk => ?_, .inl ⟨(err_slot_none h).symm, rfl⟩⟩
    have hxy : x = y := List.head_eq_of_cons_eq hy
    rw [← hxy, ho b rfl] at hk
    cases hk
  | fail =>
    refine ⟨rfl, fun y k' a' hy hk => ?_, .inr ⟨x, k, a, rfl, hf rfl, ⟨rfl, rfl, rfl⟩, rfl⟩⟩
    have hxy : x = y := List.head_eq_of_cons_eq hy
    rw [← hxy, hf rfl] at hk
    cases hk
    exact ⟨⟨rfl, rfl, rfl⟩, rfl⟩

/-- The first read of a `SetMode` is always a transaction, since ERR is cleared first. -/
theorem rread_oneTxn {s : State} (h : s.errLatched = false) (a : RegAddr) : OneTxn s (rread a s) := by
  simp only [rread, h, Bool.false_eq_true, if_false]
  exact transact_oneTxn h _ _ _ _ (fun e => by rw [e]; rfl) fun b e => by rw [e]; rfl

theorem rread_guarded (a : RegAddr) (s : State) : GuardedTxn s (rread a s) := by
  cases h : s.errLatched with
  | true => rw [rread_latched h]; exact guarded_of_eq rfl rfl rfl
  | false => exact .inr ⟨h, rread_oneTxn h a⟩

theorem rwrite_guarded (a : RegAddr) (v : Byte) (s : State) : GuardedTxn s (rwrite a v s) := by
  cases h : s.errLatched with
  | true => rw [rwrite_latched h]; exact guarded_of_eq rfl rfl rfl
  | false =>
    refine .inr ⟨h, ?_⟩
    simp only [rwrite, h, Bool.false_eq_true, if_false]
    exact transact_oneTxn h _ _ _ _ (fun e => by rw [e]; rfl) fun b e => by rw [e]; rfl

theorem rburst_guarded (bytes : List Byte) (s : State) : GuardedTxn s (rburst bytes s) := by
  cases h : s.errLatched with
  | true => rw [rburst_latched h]; exact guarded_of_eq rfl rfl rfl
  | false =>
    refine .inr ⟨h, ?_⟩
    simp only [rburst, h, Bool.false_eq_true, if_false]
    exact transact_oneTxn h _ _ _ _ (fun e => by rw [e]; rfl) fun b e => by rw [e]; rfl

theorem rawait_guarded (us : Nat) (s : State) : GuardedTxn s (rawait us s) := by
  cases h : s.errLatched with
  | true => rw [rawait_latched h]; exact guarded_of_eq rfl rfl rfl
  | false =>
    refine .inr ⟨h, ?_⟩
    simp only [rawait, h, Bool.false_eq_true, if_false]
    exact transact_oneTxn h _ _ _ _ (fun e => by rw [e]; rfl) fun b e => by rw [e]; rfl

theorem sleep_guarded (us : Nat) (s : State) : GuardedTxn s (sleep us s) :=
  .inl ⟨rfl, rfl, rfl, rfl, fun x h => by rw [← List.head_eq_of_cons_eq h]; rfl⟩

theorem modeEnter_oneTxn (m : BitVec 3) (c : ModeCall) (s : State) : OneTxn s (modeEnter m c s) := by
  have h : OneTxn s.clearErr (rread s.params.profile.aOpmode s.clearErr) := rread_oneTxn rfl _
  have key : ∀ v p, OneTxn s (((rread s.params.profile.aOpmode s.clearErr).keepOpmode v).goto p) := fun v p =>
    ⟨h.drawn, fun x k a hx hf => h.latched x k a hx hf, h.outcome⟩
  unfold modeEnter
  dsimp only
  split
  · exact key _ _
  · split <;> exact key _ _

theorem modeStep_guarded (m : BitVec 3) (c : ModeCall) {p : ModeStep} (hp : p ≠ .enter) (s : State) :
    GuardedTxn s (modeStep m c p s) := by
  cases p with
  | enter => exact absurd rfl hp
  | write => exact (rwrite_guarded _ _ s).goto _
  | poll =>
    simp only [modeStep, modePoll]
    split
    · exact (rread_guarded _ s).goto _
    · split
      · split <;> exact (rread_guarded _ s).goto _
      · exact (rread_guarded _ s).goto _
  | ready =>
    simp only [modeStep, modeReady]
    split
    · exact (rread_guarded _ s).goto _
    · split <;> exact (rread_guarded _ s).goto _

theorem sendStep_guarded (p : SendPos) (s : State) : GuardedTxn s (sendStep p s) := by
  cases p with
  | clear => exact (rwrite_guarded _ _ s).goto _
  | arm => exact (rwrite_guarded _ _ s).goto _
  | length => exact (rwrite_guarded _ _ s).goto _
  | first =>
    have h : GuardedTxn (s.setSent 0) (sendFirst s) := (rburst_guarded _ (s.setSent 0)).trans_eq rfl rfl rfl
    exact h.of_eq rfl rfl rfl
  | pace => exact (sleep_guarded _ s).goto _
  | poll =>
    simp only [sendStep, sendPoll]
    split
    · exact (rread_guarded _ s).goto _
    · split <;> exact (rread_guarded _ s).goto _
  | refill => exact (rburst_guarded _ s).trans_eq rfl rfl rfl
  | wait =>
    simp only [sendStep, sendWait]
    split
    · exact (rread_guarded _ s).goto _
    · split <;> exact (rread_guarded _ s).goto _
  | stop => exact (rwrite_guarded _ _ s).goto _

theorem recvStep_guarded (p : RecvPos) (s : State) : GuardedTxn s (recvStep p s) := by
  cases p with
  | await => exact (rawait_guarded _ s).goto _
  | rssi => exact (rread_guarded _ s).trans_eq rfl rfl rfl
  | poll =>
    simp only [recvStep, recvPoll]
    split
    · exact (rread_guarded _ s).goto _
    · split
      · split
        · exact (rread_guarded _ s).goto _
        · exact ((rread_guarded _ s).setOutcome _).goto _
      · exact (rread_guarded _ s).goto _
  | sleep => exact (sleep_guarded _ s).trans_eq rfl rfl rfl
  | byte =>
    simp only [recvStep, recvByte]
    split
    · exact (rread_guarded _ s).goto _
    · split
      · exact (rread_guarded _ s).sentinel.goto _
      · split
        · exact ((rread_guarded _ s).setOutcome _).goto _
        · exact ((rread_guarded _ s).store _ _ _).goto _
  | clear => exact (rwrite_guarded _ _ s).goto _

theorem setWrite_guarded (a : RegAddr) (v : Byte) (p : Pos) (s : State) : GuardedTxn s (setWrite a v p s) :=
  (rwrite_guarded a v s).goto p

theorem commitPure_guarded (res : Word) (range : Bool) (s : State) :
    GuardedTxn s (s.commitEncode res range).completePure := guarded_of_eq rfl rfl rfl

theorem setFinish_guarded (res : Nat) (range : Bool) (s : State) : GuardedTxn s (setFinish res range s) :=
  guarded_of_eq rfl rfl rfl

/-- Behind the gate: gated, no transaction; otherwise what the body does with ERR = 0. -/
theorem gate_guarded {gated body : State → State} {s : State} (h1 : (gated s).radio = s.radio)
    (h2 : (gated s).err = s.err) (h3 : (gated s).seq.xerr = s.seq.xerr) (h : s.errLatched = false → GuardedTxn s (body s)) :
    GuardedTxn s (s.gate gated body) := by
  unfold State.gate
  split
  · exact guarded_of_eq h1 h2 h3
  case isFalse hl => exact h (Bool.eq_false_iff.mpr hl)

theorem sendStart_guarded {gated : State → State} {s : State} (h1 : (gated s).radio = s.radio)
    (h2 : (gated s).err = s.err) (h3 : (gated s).seq.xerr = s.seq.xerr) : GuardedTxn s (sendStart gated s) := by
  unfold sendStart
  split
  · exact guarded_of_eq rfl rfl rfl
  · exact gate_guarded h1 h2 h3 fun hl =>
      have o := modeEnter_oneTxn modeStandby .sendStandby s.loadFrame
      .inr ⟨hl, o.drawn, o.latched, o.outcome⟩

theorem modeStep_txn (m : BitVec 3) (c : ModeCall) (p : ModeStep) {s : State} (i : Instr)
    (hp : s.pos = some (.mode c p)) :
    GuardedTxn s (modeStep m c p s) ∨ (FirstOfSetMode i s ∧ OneTxn s (modeStep m c p s)) := by
  by_cases h : p = .enter
  · subst h
    exact .inr ⟨.inl ⟨c, hp⟩, modeEnter_oneTxn m c s⟩
  · exact .inl (modeStep_guarded m c h s)

/-- One block step of any command: no transaction, or one while ERR = 0, or the first read of a `SetMode`. -/
theorem exec_txn {i : Instr} {s t : State} (h : exec i s = .next t) :
    GuardedTxn s t ∨ (FirstOfSetMode i s ∧ OneTxn s t) := by
  have pos : ∀ {w p}, s.seq.phase = .running w p → s.pos = some p := fun hq => pos_eq_some.mpr ⟨_, hq⟩
  cases i <;> simp only [exec] at h
  case nop => cases h; exact .inl (guarded_of_eq rfl rfl rfl)
  case freqEnc => cases h; exact .inl (commitPure_guarded _ _ s)
  case freqDec => cases h; exact .inl (commitPure_guarded _ _ s)
  case brEnc =>
    simp only [execBrEnc] at h
    split at h <;> cases h
    · exact .inl (guarded_of_eq rfl rfl rfl)
    · exact .inl (commitPure_guarded _ _ s)
  case brDec =>
    simp only [execBrDec] at h
    split at h <;> cases h
    · exact .inl (guarded_of_eq rfl rfl rfl)
    · exact .inl (commitPure_guarded _ _ s)
  case bwEnc => cases h; exact .inl (commitPure_guarded _ _ s)
  case bwDec =>
    simp only [execBwDec] at h
    split at h <;> cases h
    · exact .inl (guarded_of_eq rfl rfl rfl)
    · exact .inl (commitPure_guarded _ _ s)
  case setFreq =>
    unfold execSetFreq at h
    split at h <;> cases h <;> left
    · exact gate_guarded rfl rfl rfl fun _ => setWrite_guarded _ _ _ s
    · exact setWrite_guarded _ _ _ s
    · exact setWrite_guarded _ _ _ s
    · exact setFinish_guarded _ _ s
  case setBr =>
    unfold execSetBr at h
    split at h <;> cases h <;> left
    · split
      · exact guarded_of_eq rfl rfl rfl
      · exact gate_guarded rfl rfl rfl fun _ => setWrite_guarded _ _ _ s
    · exact setWrite_guarded _ _ _ s
    · exact setFinish_guarded _ _ s
  case setBw =>
    unfold execSetBw at h
    split at h <;> cases h <;> left
    · exact gate_guarded rfl rfl rfl fun _ => setWrite_guarded _ _ _ s
    · exact setFinish_guarded _ _ s
  case setmode m =>
    unfold execSetmode at h
    split at h
    · split at h <;> cases h
      case h_1 hq => exact .inr ⟨.inr ⟨pos hq, m, rfl⟩, modeEnter_oneTxn _ _ s⟩
      case h_2 hq => exact modeStep_txn _ _ _ _ (pos hq)
      case h_3 => exact .inl (guarded_of_eq rfl rfl rfl)
    · cases h; exact .inl (guarded_of_eq rfl rfl rfl)
  case getmode =>
    unfold execGetmode at h
    split at h <;> cases h <;> left
    · exact gate_guarded rfl rfl rfl fun _ => (rread_guarded _ s).trans_eq rfl rfl rfl
    · exact setFinish_guarded _ _ s
  case send =>
    unfold execSend at h
    split at h <;> cases h
    case h_1 => exact .inl (sendStart_guarded rfl rfl rfl)
    case h_2 hq => exact modeStep_txn _ _ _ _ (pos hq)
    case h_3 => exact .inl (sendStep_guarded _ s)
    case h_4 hq => exact modeStep_txn _ _ _ _ (pos hq)
    case h_5 => exact .inl (guarded_of_eq rfl rfl rfl)
  case recv =>
    unfold execRecv at h
    split at h <;> cases h
    case h_1 => exact .inl (gate_guarded rfl rfl rfl fun _ => (rwrite_guarded _ _ s).trans_eq rfl rfl rfl)
    case h_2 hq => exact modeStep_txn _ _ _ _ (pos hq)
    case h_3 => exact .inl (recvStep_guarded _ s)
    case h_4 hq => exact modeStep_txn _ _ _ _ (pos hq)
    case h_5 => exact .inl (guarded_of_eq rfl rfl rfl)
  case sendrecv =>
    unfold execSendrecv at h
    split at h <;> cases h
    case h_1 => exact .inl (sendStart_guarded rfl rfl rfl)
    case h_2 hq => exact modeStep_txn _ _ _ _ (pos hq)
    case h_3 => exact .inl (sendStep_guarded _ s)
    case h_4 hq => exact modeStep_txn _ _ _ _ (pos hq)
    case h_5 => exact .inl (gate_guarded rfl rfl rfl fun _ => (rwrite_guarded _ _ s).trans_eq rfl rfl rfl)
    case h_6 hq => exact modeStep_txn _ _ _ _ (pos hq)
    case h_7 => exact .inl (recvStep_guarded _ s)
    case h_8 hq => exact modeStep_txn _ _ _ _ (pos hq)
    case h_9 => exact .inl (guarded_of_eq rfl rfl rfl)

/-- What one block step can do to ERR, ERRADDR and xerr (R25, R26, R211): nothing; latch its own failed transaction; or, as the
first step of a `SetMode`, clear ERR and keep the rest. -/
theorem exec_err {i : Instr} {s t : State} (h : exec i s = .next t) :
    (t.err = s.err ∧ t.seq.xerr = s.seq.xerr)
      ∨ (LatchesFailure s t ∧ (s.errLatched = false ∨ FirstOfSetMode i s))
      ∨ (FirstOfSetMode i s ∧ t.err = { s.err with slot := .none } ∧ t.seq.xerr = s.seq.xerr) := by
  rcases exec_txn h with (n | ⟨hl, o⟩) | ⟨hf, o⟩
  · exact .inl ⟨n.err, n.xerr⟩
  · rcases o.outcome with e | l
    · exact .inl ⟨e.1.trans (err_slot_none hl), e.2⟩
    · exact .inr (.inl ⟨l, .inl hl⟩)
  · rcases o.outcome with e | l
    · exact .inr (.inr ⟨hf, e⟩)
    · exact .inr (.inl ⟨l, .inr hf⟩)

/-! ### Straight-line steps (R211) -/

/-- A step that is one write and a move runs on. -/
theorem runsOn_rwrite {i : Instr} {s : State} {a : RegAddr} {v : Byte} {p q : Pos} (hp : s.pos = some p)
    (h : exec i s = .next ((rwrite a v s).goto q)) : RunsOn i s .write a (.write a v) q := by
  have w := rwrite_port a v s
  refine ⟨_, h, by rw [pos_goto, w.pos, hp]; rfl, w.flags, w.enc,
    ⟨w.fatal, ⟨w.params, w.operands, w.ie, congrArg _ w.flags, fun _ => congrArg (memRead · _) w.txbuf, w.host⟩,
      w.rx, w.glitchCnt, fun _ => congrArg (memRead · _) w.rxbuf⟩, ?_, ?_, ?_⟩
  · unfold State.goto
    rw [w.seq]
  · intro he
    rw [rwrite_latched he]
    exact ⟨rfl, rfl, rfl⟩
  · intro he
    refine ⟨?_, ?_, ?_⟩
    · cases ha : s.nextAnswer <;> simp only [rwrite, he, ha] <;> exact ⟨rfl, rfl⟩
    · intro b hb
      rw [rwrite_ok he hb]
      exact ⟨rfl, rfl⟩
    · intro hf
      rw [rwrite_fail he hf]
      exact ⟨⟨rfl, rfl, rfl⟩, rfl⟩

end Sys2Proof.Machine
end

