-- ==== Sys2Proof/Laws/Step.lean ====
section
/-! SUPPORT. What one step of the machine can be (a host turn, an idle turn, an illegal word, a step of a command), said
once; and how consecutive steps of a command compose. -/

namespace Sys2Proof.Machine

/-- The word in phase, as `fetch` sees it. -/
theorem fetch_eq_some {s : State} {w : Word} : s.fetch = some w ↔ ∃ p, s.seq.phase = .running w p := by
  unfold State.fetch
  cases s.seq.phase <;> simp [eq_comm]

/-- A step that answers a next state is one of four. -/
theorem step_cases {s t : State} (h : step s = .next t) :
    s.params.wf = true ∧
      ((∃ op, s.hostTurn = some op ∧ hostStep op s.popHost = .next t)
        ∨ (s.hostTurn = none ∧ s.fetch = none ∧ t = s.tick)
        ∨ (∃ w e, s.hostTurn = none ∧ s.fetch = some w ∧ decode w = .error e ∧ t = s.tick.raiseFatal .illegal w)
        ∨ ∃ w i, s.hostTurn = none ∧ s.fetch = some w ∧ decode w = .ok i ∧ exec i s.tick = .next t) := by
  have hf : s.tick.fetch = s.fetch := rfl
  unfold step at h
  split at h
  case isFalse => cases h
  case isTrue hw =>
    refine ⟨hw, ?_⟩
    cases hh : s.hostTurn with
    | some op => rw [hh] at h; exact .inl ⟨op, rfl, h⟩
    | none =>
      rw [hh] at h
      simp only [blockStep, hf] at h
      cases hw : s.fetch with
      | none => rw [hw] at h; cases h; exact .inr (.inl ⟨rfl, rfl, rfl⟩)
      | some w =>
        rw [hw] at h
        cases hd : decode w with
        | error e => simp only [hd] at h; cases h; exact .inr (.inr (.inl ⟨w, e, rfl, rfl, hd, rfl⟩))
        | ok i => simp only [hd] at h; exact .inr (.inr (.inr ⟨w, i, rfl, rfl, hd, h⟩))

/-- Steps of a command compose. -/
theorem execN_append {i : Instr} {n : Nat} (k : Nat) {s t : State} (h : execN i n s = .next t) :
    execN i (n + k) s = execN i k t := by
  induction n generalizing s with
  | zero =>
    simp only [execN] at h
    cases h
    rw [Nat.zero_add]
  | succ n ih =>
    rw [Nat.succ_add]
    simp only [execN] at h ⊢
    cases hx : exec i s with
    | next u => rw [hx] at h; exact ih h
    | fault u => rw [hx] at h; cases h
    | refused u => rw [hx] at h; cases h

end Sys2Proof.Machine
end

