-- ==== Sys2Proof/Tests/Slice0.lean ====
section
/-! SUPPORT. The model's own tests: well-formedness, decoding from words written out bit by bit, single steps with the
expected values of spec/95_test_vectors.md, and for each obligation a concrete input that meets its hypotheses. -/

namespace Sys2Proof.Tests

open Sys2Proof.Machine Sys2Proof.Config

/-! ### Well-formedness: the one check has an ill-formed term for each value it refuses (R93) -/

theorem test_setmode_six_ill_formed : ¬ WellFormed (.setmode 6) := by decide

theorem test_setmode_seven_ill_formed : ¬ WellFormed (.setmode 7) := by decide

theorem test_setmode_five_well_formed : WellFormed (.setmode 5) := by decide

/-! ### Decoding: RSV in bits 31:11, MODE in 10:8, OP in 7:0 (R90, R91) -/

theorem test_decode_nop : decode 0b000000000000000000000_000_00000000#32 = .ok .nop := by decide

theorem test_decode_freqEnc : decode 0b000000000000000000000_000_00000001#32 = .ok .freqEnc := by decide

theorem test_decode_freqDec : decode 0b000000000000000000000_000_00000010#32 = .ok .freqDec := by decide

theorem test_decode_brEnc : decode 0b000000000000000000000_000_00000011#32 = .ok .brEnc := by decide

theorem test_decode_brDec : decode 0b000000000000000000000_000_00000100#32 = .ok .brDec := by decide

theorem test_decode_bwEnc : decode 0b000000000000000000000_000_00000101#32 = .ok .bwEnc := by decide

theorem test_decode_bwDec : decode 0b000000000000000000000_000_00000110#32 = .ok .bwDec := by decide

theorem test_decode_setFreq : decode 0b000000000000000000000_000_00010000#32 = .ok .setFreq := by decide

theorem test_decode_setBr : decode 0b000000000000000000000_000_00010001#32 = .ok .setBr := by decide

theorem test_decode_setBw : decode 0b000000000000000000000_000_00010010#32 = .ok .setBw := by decide

theorem test_decode_setmode_standby : decode 0b000000000000000000000_001_00100000#32 = .ok (.setmode 1) := by decide

theorem test_decode_setmode_rx : decode 0b000000000000000000000_101_00100000#32 = .ok (.setmode 5) := by decide

theorem test_decode_getmode : decode 0b000000000000000000000_000_00100001#32 = .ok .getmode := by decide

theorem test_decode_send : decode 0b000000000000000000000_000_00110000#32 = .ok .send := by decide

theorem test_decode_recv : decode 0b000000000000000000000_000_00110001#32 = .ok .recv := by decide

theorem test_decode_sendrecv : decode 0b000000000000000000000_000_00110010#32 = .ok .sendrecv := by decide

/-- Vectors D2, D5, D7, M10 (95_test_vectors.md, sections 2.2 and 2.5): each illegal word by its reason. -/
theorem test_decode_illegal_by_name :
    decode 0x00000007 = .error (.unknownOp 0x07) ∧ decode 0x00000830 = .error .reservedNonzero
      ∧ decode 0x00000130 = .error .modeNonzero ∧ decode 0x00000620 = .error (.noSuchMode 6) := by decide

theorem test_table_words : decodeTableWord 32 0x520 = some (.setmode 5) ∧ decodeTableWord 8 0x31 = some .recv
    ∧ decodeTableWord 32 0x13 = none := by decide

/-! ### States to test on: instance T64 (95_test_vectors.md, section 0) -/

/-- Command `i` at position `p`, with the radio's pending answers. -/
def running (i : Instr) (p : Pos) (answers : List RadioAnswer) : State :=
  { State.reset with
    flags := { busy := true, done := false, xerr := false, cmdlost := false }
    seq := { Sequencer.reset with phase := .running (encode i) p }
    radio := { answers := answers, drawn := 0, log := [] } }

/-- With the operand ARG. -/
def withArg (v : Word) (s : State) : State := { s with operands := { s.operands with arg := v } }

/-- With a payload in TXBUF and its length in TXLEN. -/
def withTx (m : Memory) (n : BitVec 16) (s : State) : State :=
  { s with txbuf := m, operands := { s.operands with txlen := n } }

/-- With a latched error on an RWrite of address 7 (ERRADDR 0x207). -/
def withErr (s : State) : State := { s with err := { slot := .transport, kind := some .write, addr := 7 } }

/-- With the whole frame of `withTx` loaded, `k` bytes of it sent. -/
def withSent (k : Nat) (s : State) : State := { s.loadFrame with seq := { s.loadFrame.seq with sent := k } }

/-- With `n` received bytes, the given RXBUF and budget. -/
def withRx (m : Memory) (n budget : Nat) (s : State) : State :=
  { s with rxbuf := m, seq := { s.seq with count := n, budget := budget } }

/-- With a host action that moves now. -/
def hosting (op : HostOp) (s : State) : State := { s with host := { s.host with queue := [⟨0, op⟩] } }

/-- One fact about the state after a step; false where the step stops. -/
def nextIs (o : Host.Outcome State Fault Refusal) (f : State → Bool) : Bool :=
  match o with
  | .next t => f t
  | .fault _ => false
  | .refused _ => false

/-- A fact about the next state names a next state. -/
theorem exists_of_nextIs {o : Host.Outcome State Fault Refusal} {f : State → Bool} (h : nextIs o f = true) :
    ∃ t, o = .next t ∧ f t = true := by
  cases o with
  | next t => exact ⟨t, rfl, h⟩
  | fault r => cases h
  | refused r => cases h

/-! ### Numeric encoder: vectors of section 2.1 -/

theorem test_freqEnc_rounds : nextIs (execFreqEnc (withArg 916300000 (running .freqEnc .start [])))
    (fun t => t.enc == ⟨0x00E51333, false⟩ && t.statusWord == 0x002) = true := by decide

theorem test_freqEnc_wraps : nextIs (execFreqEnc (withArg 0xFFFFFFFF (running .freqEnc .start [])))
    (fun t => t.enc == ⟨0x31BDE8, true⟩ && t.statusWord == 0x042) = true := by decide

theorem test_freqDec_ignores_high_byte : nextIs (execFreqDec (withArg 0xFFE51333 (running .freqDec .start [])))
    (fun t => t.enc == ⟨916299987, false⟩) = true := by decide

theorem test_brEnc_range : nextIs (execBrEnc (withArg 1 (running .brEnc .start [])))
    (fun t => t.enc == ⟨0x4800, true⟩) = true := by decide

theorem test_brEnc_nearest : nextIs (execBrEnc (withArg 9600 (running .brEnc .start [])))
    (fun t => t.enc == ⟨0x0D05, false⟩) = true := by decide

theorem test_brDec_nearest : nextIs (execBrDec (withArg 0x0D05 (running .brDec .start [])))
    (fun t => t.enc == ⟨9601, false⟩) = true := by decide

theorem test_brDec_zero_is_fatal : nextIs (execBrDec (withArg 0x00010000 (running .brDec .start [])))
    (fun t => t.statusWord == 0x004 && t.fcauseWord == 3 && t.fatal.info == 0x04) = true := by decide

theorem test_bwEnc_tie_goes_up : nextIs (execBwEnc (withArg 28125 (running .bwEnc .start [])))
    (fun t => t.enc == ⟨0x04, false⟩) = true := by decide

theorem test_bwEnc_below_midpoint : nextIs (execBwEnc (withArg 2864 (running .bwEnc .start [])))
    (fun t => t.enc == ⟨0x17, false⟩) = true := by decide

theorem test_bwDec_ignores_high_bits : nextIs (execBwDec (withArg 0xE5 (running .bwDec .start [])))
    (fun t => t.enc == ⟨15625, false⟩) = true := by decide

theorem test_bwDec_reserved_mantissa : nextIs (execBwDec (withArg 0x00000118 (running .bwDec .start [])))
    (fun t => t.fcauseWord == 2 && t.fatal.info == 0x18 && !t.flags.done) = true := by decide

/-! ### Mode and register commands: vectors of sections 2.2 and 2.3, one step each -/

theorem test_setFreq_msb_first : nextIs (execSetFreq (withArg 915000000 (running .setFreq .start [.ok 0])))
    (fun t => t.radio.log == [.write 0x06 0xE4 (.ok 0)]) = true := by decide

theorem test_setFreq_mid_second : nextIs (execSetFreq (withArg 915000000 (running .setFreq .write2 [.fail])))
    (fun t => t.radio.log == [.write 0x07 0xC0 .fail] && t.errAddrWord == 0x207) = true := by decide

theorem test_setBr_lsb_second : nextIs (execSetBr (withArg 16384 (running .setBr .write2 [.ok 0])))
    (fun t => t.radio.log == [.write 0x03 0xA1 (.ok 0)]) = true := by decide

theorem test_setBw_writes_byte : nextIs (execSetBw (withArg 48000 (running .setBw .start [.ok 0])))
    (fun t => t.radio.log == [.write 0x12 0x0B (.ok 0)]) = true := by decide

/-- M3: the write keeps bit 3 of A_OPMODE. -/
theorem test_setmode_keeps_other_bits :
    nextIs (execSetmode 5 ((running (.setmode 5) (.mode .command .write) [.ok 0]).keepOpmode 0x09))
      (fun t => t.radio.log == [.write 0x01 0x0D (.ok 0)]) = true := by decide

/-- M6: ERR is cleared, ERRADDR kept, and the transition is over after one read. -/
theorem test_setmode_clears_err : nextIs (execSetmode 1 (withErr (running (.setmode 1) .start [.ok 0x01])))
    (fun t => !t.errLatched && t.errAddrWord == 0x207 && t.pos == some .finish) = true := by decide

/-- G3: gated. -/
theorem test_getmode_gated : nextIs (execGetmode (withErr (running .getmode .start [])))
    (fun t => t.enc == State.reset.enc && t.statusWord == 0x00A && t.radio.drawn == 0) = true := by decide

/-- G1. -/
theorem test_getmode_result : nextIs (execGetmode ((running .getmode .finish []).keepOpmode 0x0D))
    (fun t => t.enc == ⟨5, false⟩ && t.statusWord == 0x002) = true := by decide

/-! ### Framer: steps of programs P2, P3, P4, P8, P9 and of the source's examples -/

/-- W13, D1 of section 1: fatal (1, 65), no transaction. -/
theorem test_send_oversize : nextIs (execSend (withTx [] 65 (running .send .start [])))
    (fun t => t.statusWord == 0x004 && t.fcauseWord == 1 && t.fatal.info == 65 && t.radio.drawn == 0) = true := by
  decide

/-- P2: the first burst carries the payload and the sentinel. -/
theorem test_send_first_burst :
    nextIs (execSend (withSent 0 (withTx [(0, 0xA5), (1, 0x5A)] 2 (running .send (.send .first) [.ok 0]))))
      (fun t => t.radio.log == [.burst 0x00 [0xA5, 0x5A, 0x00] (.ok 0)] && t.pos == some (.send .wait)) = true := by
  decide

/-- P3: the sentinel after 0x12, 0x80 drops the glitch byte. -/
theorem test_recv_glitch : nextIs (execRecv (withRx [(0, 0x12), (1, 0x80)] 2 0 (running .recv (.recv .byte) [.ok 0])))
    (fun t => t.seq.count == 1 && t.glitchCnt == 1 && t.seq.outcome == .packet && memRead t.rxbuf 1 == 0x80) = true := by
  decide

/-- P4: an empty FIFO with no budget is TIMEOUT at the first poll. -/
theorem test_recv_timeout : nextIs (execRecv (running .recv (.recv .poll) [.ok 0x40]))
    (fun t => t.seq.outcome == .timeout && t.pos == some (.mode .recvSettle .enter)) = true := by decide

/-- P9 and R192: after a send part that left an error, no receive. -/
theorem test_sendrecv_skips_receive : nextIs (execSendrecv (withErr (running .sendrecv .sent [])))
    (fun t => t.rx == State.reset.rx && t.statusWord == 0x00A && t.radio.drawn == 0) = true := by decide

/-- P9: after a send part with no error, the receive set-up write. -/
theorem test_sendrecv_receives : nextIs (execSendrecv (running .sendrecv .sent [.ok 0]))
    (fun t => t.radio.log == [.write 0x32 0x00 (.ok 0)] && t.pos == some (.mode .recvReceiver .enter)) = true := by
  decide

/-! ### Host side: vectors of sections 2.5 to 2.8 -/

/-- D1: NOP leaves STATUS 0x002. -/
theorem test_nop_status : nextIs (execNop (running .nop .start [])) (fun t => t.statusWord == 0x002) = true := by
  decide

/-- H1, H2, H3. -/
theorem test_operand_readback :
    (State.reset.csrWrite .cfg 0xFFFFFFFF).csrRead .cfg = 0x0000013F
      ∧ (State.reset.csrWrite .bytetime 0).csrRead .bytetime = 1
      ∧ (State.reset.csrWrite .bytetime 0x00012345).csrRead .bytetime = 0x2345 := by decide

/-- H12. -/
theorem test_param_words : State.reset.csrRead .param0 = 0x00004040 ∧ State.reset.csrRead .param1 = 0x00000040 := by
  decide

/-- D6 and D10: a step on an illegal word is fatal (4, word), and the next CMD write is lost. -/
theorem test_illegal_then_lost :
    nextIs (blockStep (State.reset.accept 0x80000001))
      (fun t => t.fcauseWord == 4 && t.fatal.info == 0x80000001 && (t.issue 0).statusWord == 0x404) = true := by decide

/-- Programs P3 and P2 (95_test_vectors.md, section 3): `RD RXBUF[0]` is R 0x2000, and a write of TXBUF[1] goes to 0x1004. -/
theorem test_program_buffer_names : progRd t64 (.rxbuf 0) = [⟨0, .read 32 0x2000⟩]
    ∧ progWr t64 (.txbuf 1) 0x5A = [⟨0, .write 32 0x1004 0x5A⟩]
    ∧ progLoadTx t64 [0xA5, 0x5A]
      = [⟨0, .write 32 0x1000 0xA5⟩, ⟨0, .write 32 0x1004 0x5A⟩, ⟨0, .write 32 0x020 2⟩] := by decide

/-- R182 with R68 (log 26): a failing last write of RECV leaves ERR = 1, and ERRADDR names it. -/
theorem test_recv_last_write_latches : nextIs (execRecv (running .recv (.recv .clear) [.fail]))
    (fun t => t.csrRead .err == 1 && t.errAddrWord == 0x23F && t.pos == some .finish) = true := by decide

/-- R240: the reset memories are in canonical form; STATUS and IRQ are 0. -/
theorem test_reset_memory_wf : Memory.wf State.reset.txbuf = true ∧ Memory.wf State.reset.rxbuf = true
    ∧ State.reset.statusWord = 0 ∧ irq State.reset = false := by decide

/-- The step after `withFetchWord` on the reset state runs the word. -/
theorem test_fetch_word_runs : nextIs (step (State.reset.withFetchWord 32 0x00000001))
    (fun t => t.statusWord == 0x002) = true := by decide

/-! ### Witnesses: a concrete input for the hypotheses of each obligation, and for each of its clauses -/

/-- With the parameter HAS_MODE_READY. -/
def withReady (s : State) : State := { s with params := { s.params with hasModeReady := true } }

/-- With the FATAL record of an illegal word 7. -/
def faulted : State :=
  { State.reset with fatal := { fatal := true, cause := some .illegal, info := 7 } }

/-- With budget and outcome as the byte loop has them. -/
def inLoop (p : RecvPos) (budget : Nat) (answers : List RadioAnswer) : State :=
  withRx [(0, 0x12)] 1 budget (running .recv (.recv p) answers)

/-- A busy block with a host action that moves now. -/
def busyHost (op : HostOp) : State := hosting op (running .recv (.recv .poll) [])

theorem witness_DecodeEncodeIdentity : WellFormed (.setmode 0) ∧ WellFormed (.setmode 5) ∧ WellFormed .sendrecv := by
  decide

theorem witness_DecodedWordIsItsEncoding : decode 0x00000520 = .ok (.setmode 5) := by decide

theorem witness_WordSelectsCommandByMask :
    (∃ r ∈ opcodeRows, r.mnemonic = "SETMODE" ∧ (0x00000520 : Word) &&& r.mask = r.pattern)
      ∧ (modeField 0x00000520).toNat = 5
      ∧ ∃ r ∈ opcodeRows, r.mnemonic = "SENDRECV" ∧ (0x00000032 : Word) &&& r.mask = r.pattern := by decide

theorem witness_IllegalWordRaisesFatal :
    (State.reset.accept 0x13).params.wf = true ∧ (State.reset.accept 0x13).hostTurn = none
      ∧ (State.reset.accept 0x13).seq.phase = .running 0x13 .start ∧ decode 0x13 = .error (.unknownOp 0x13) := by decide

theorem witness_StepRunsDecodedCommand :
    (running (.setmode 5) (.mode .command .poll) []).params.wf = true
      ∧ (running (.setmode 5) (.mode .command .poll) []).hostTurn = none
      ∧ (running (.setmode 5) (.mode .command .poll) []).seq.phase = .running 0x520 (.mode .command .poll)
      ∧ decode 0x520 = .ok (.setmode 5) := by decide

theorem witness_IdleBlockRunsNothing : State.reset.params.wf = true ∧ State.reset.hostTurn = none
    ∧ State.reset.seq.phase = .idle ∧ State.reset.host.queue = [] := by decide

/-- The clauses of the four results with clauses, at the ends of their ranges. -/
theorem witness_EncResults :
    (withArg 0 State.reset).operands.arg = 0 ∧ (withArg 488 State.reset).operands.arg ≠ 0
      ∧ (withArg 488 State.reset).operands.arg.toNat ≤ 488 ∧ ¬ (withArg 489 State.reset).operands.arg.toNat ≤ 488
      ∧ (withArg 0xFFFF0000 State.reset).operands.arg.toNat % 2 ^ 16 = 0
      ∧ (withArg 0xFFFF State.reset).operands.arg.toNat % 2 ^ 16 ≠ 0
      ∧ (withArg 0x1F State.reset).operands.arg.toNat / 8 % 4 = 3
      ∧ (withArg 0x17 State.reset).operands.arg.toNat / 8 % 4 ≠ 3
      ∧ 1023999970 ≤ (withArg 1023999970 State.reset).operands.arg.toNat
      ∧ ¬ 1023999970 ≤ (withArg 1023999969 State.reset).operands.arg.toNat := by decide

theorem witness_BwEncResult : (bwSelect 2604).mantissa = 24 ∧ (bwSelect 3125).mantissa = 20
    ∧ (bwSelect 250000).mantissa = 16 := by decide

/-- Just above the floor and just below the ceiling; the clamps at 2604 and 250000. -/
theorem witness_BwSelectNearest :
    (2604 < 2605 ∧ (⟨20, 7⟩ : Bandwidth) ∈ achievable ∧ (⟨24, 7⟩ : Bandwidth) ∈ achievable
        ∧ 2605 ≤ bwHz ⟨20, 7⟩ ∧ bwHz ⟨24, 7⟩ < 2605 ∧ (∀ a ∈ achievable, 2605 ≤ bwHz a → bwHz ⟨20, 7⟩ ≤ bwHz a)
        ∧ ∀ a ∈ achievable, bwHz a < 2605 → bwHz a ≤ bwHz ⟨24, 7⟩)
      ∧ (249999 < 250000 ∧ (⟨16, 1⟩ : Bandwidth) ∈ achievable ∧ (⟨20, 1⟩ : Bandwidth) ∈ achievable
        ∧ 249999 ≤ bwHz ⟨16, 1⟩ ∧ bwHz ⟨20, 1⟩ < 249999 ∧ (∀ a ∈ achievable, 249999 ≤ bwHz a → bwHz ⟨16, 1⟩ ≤ bwHz a)
        ∧ ∀ a ∈ achievable, bwHz a < 249999 → bwHz a ≤ bwHz ⟨20, 1⟩) := by decide

theorem witness_RoundTrips : 0xFFFFFF < 2 ^ 24 ∧ (∃ k, k < 2 ^ 24 ∧ 61 = freqDec k) ∧ (1 ≤ 5723 ∧ 5723 ≤ 5723)
    ∧ (0x17 : Byte).toNat < 32 ∧ (0x17 : Byte).toNat / 8 ≠ 3 ∧ 1 ≤ (0x17 : Byte).toNat % 8
    ∧ ∃ a ∈ achievable, bwHz a = 2604 :=
  ⟨by decide, ⟨1, by decide⟩, by decide, by decide, by decide, by decide, by decide⟩

theorem witness_WithModeKeepsOtherBits : defaultProfile.modeFieldOk = true
    ∧ { defaultProfile with mMode := 0xE0 }.modeFieldOk = true := by decide

theorem witness_SetmodeAlreadyInMode :
    (CallsMode (.setmode 5) .command 5 (withErr (running (.setmode 5) .start [.ok 0x0D]))
      ∧ BeginsMode .command (withErr (running (.setmode 5) .start [.ok 0x0D])))
    ∧ (withErr (running (.setmode 5) .start [.ok 0x0D])).radio.answers = .ok 0x0D :: []
    ∧ modeIs defaultProfile 0x0D 5 = true :=
  ⟨⟨⟨rfl, by decide⟩, .inr ⟨by decide, .inl rfl⟩⟩, by decide, by decide⟩

/-- With CFG.IDLE = 1. -/
def withIdle (s : State) : State := { s with operands := { s.operands with idle := true } }

/-- Every call of `SetMode` at its first step, `SettleIdle` with both values of CFG.IDLE, SEND at the longest payload. -/
theorem witness_SetModeCalls :
    (CallsMode (.setmode 0) .command 0 State.reset ∧ BeginsMode .command (running (.setmode 0) .start []))
    ∧ (CallsMode .send .sendStandby 1 State.reset ∧ BeginsMode .sendStandby (withTx [] 64 (running .send .start [])))
    ∧ (CallsMode .sendrecv .sendSettle 0 State.reset ∧ CallsMode .send .sendSettle 1 (withIdle State.reset)
      ∧ BeginsMode .sendSettle (running .send (.mode .sendSettle .enter) []))
    ∧ (CallsMode .recv .recvReceiver 5 State.reset
      ∧ BeginsMode .recvReceiver (running .recv (.mode .recvReceiver .enter) []))
    ∧ CallsMode .recv .recvSettle 0 State.reset ∧ CallsMode .sendrecv .recvSettle 1 (withIdle State.reset)
    ∧ BeginsMode .recvSettle (running .recv (.mode .recvSettle .enter) []) :=
  ⟨⟨⟨rfl, by decide⟩, .inr ⟨by decide, .inl rfl⟩⟩,
    ⟨⟨.inl rfl, rfl⟩, .inr ⟨by decide, .inr ⟨rfl, by decide, by decide⟩⟩⟩,
    ⟨⟨.inr rfl, by decide⟩, ⟨.inl rfl, by decide⟩, .inl (by decide)⟩, ⟨⟨.inl rfl, rfl⟩, .inl (by decide)⟩,
    ⟨.inl rfl, by decide⟩, ⟨.inr rfl, by decide⟩, .inl (by decide)⟩

theorem witness_SetmodeTransition :
    (CallsMode (.setmode 1) .command 1 (running (.setmode 1) .start [.ok 0, .ok 0, .ok 0, .ok 6, .ok 1])
      ∧ BeginsMode .command (running (.setmode 1) .start [.ok 0, .ok 0, .ok 0, .ok 6, .ok 1]))
    ∧ (running (.setmode 1) .start [.ok 0, .ok 0, .ok 0, .ok 6, .ok 1]).params.hasModeReady = false
    ∧ (running (.setmode 1) .start [.ok 0, .ok 0, .ok 0, .ok 6, .ok 1]).radio.answers
        = .ok 0 :: .ok 0 :: (([0, 6] : List Byte).map RadioAnswer.ok ++ .ok 1 :: [])
    ∧ modeIs t64.profile 0 1 = false ∧ (∀ x ∈ ([0, 6] : List Byte), modeIs t64.profile x 1 = false)
    ∧ modeIs t64.profile 1 1 = true :=
  ⟨⟨⟨rfl, by decide⟩, .inr ⟨by decide, .inl rfl⟩⟩, by decide, by decide, by decide, by decide, by decide⟩

/-- P2's usual case: `SettleIdle` to Sleep from Standby, no wait. -/
theorem witness_SetmodeTransition_settle :
    (CallsMode .send .sendSettle 0 (running .send (.mode .sendSettle .enter) [.ok 1, .ok 0, .ok 0])
      ∧ BeginsMode .sendSettle (running .send (.mode .sendSettle .enter) [.ok 1, .ok 0, .ok 0]))
    ∧ (running .send (.mode .sendSettle .enter) [.ok 1, .ok 0, .ok 0]).radio.answers
        = .ok 1 :: .ok 0 :: (([] : List Byte).map RadioAnswer.ok ++ .ok 0 :: [])
    ∧ modeIs t64.profile 1 0 = false ∧ modeIs t64.profile 0 0 = true :=
  ⟨⟨⟨.inl rfl, by decide⟩, .inl (by decide)⟩, by decide, by decide, by decide⟩

theorem witness_SetmodeWaitsForModeReady :
    (CallsMode (.setmode 1) .command 1 State.reset
      ∧ BeginsMode .command (withReady (running (.setmode 1) .start [.ok 0, .ok 0, .ok 6, .ok 1, .ok 0, .ok 1, .ok 0x80])))
    ∧ (withReady (running (.setmode 1) .start [])).params.hasModeReady = true
    ∧ (running (.setmode 1) .start [.ok 0, .ok 0, .ok 6, .ok 1, .ok 0, .ok 1, .ok 0x80]).radio.answers
        = .ok 0 :: .ok 0 :: ([PollRound.other 6, .notReady 1 0].flatMap PollRound.answers ++ .ok 1 :: .ok 0x80 :: [])
    ∧ modeIs t64.profile 0 1 = false
    ∧ (∀ x ∈ [PollRound.other 6, .notReady 1 0], x.holds t64.profile 1 = true)
    ∧ modeIs t64.profile 1 1 = true ∧ flagSet 0x80 t64.profile.mModeReady = true :=
  ⟨⟨⟨rfl, by decide⟩, .inr ⟨by decide, .inl rfl⟩⟩, by decide, by decide, by decide, by decide, by decide, by decide⟩

/-- The run with no round that goes on: ready at the first reading. -/
theorem witness_SetmodeWaitsForModeReady_first :
    (running (.setmode 1) .start [.ok 0, .ok 0, .ok 1, .ok 0x80]).radio.answers
      = .ok 0 :: .ok 0 :: (([] : List PollRound).flatMap PollRound.answers ++ .ok 1 :: .ok 0x80 :: []) := by decide

theorem witness_PollsHoldWithoutTheirAnswer :
    (running (.setmode 5) (.mode .command .poll) [.ok 6, .ok 0]).errLatched = false
    ∧ (running (.setmode 5) (.mode .command .poll) [.ok 6, .ok 0]).radio.answers
        = ([6, 0] : List Byte).map RadioAnswer.ok ++ []
    ∧ (∀ x ∈ ([6, 0] : List Byte), modeIs t64.profile x 5 = false)
    ∧ (running .send (.send .wait) [.ok 3, .ok 2]).errLatched = false
    ∧ (running .send (.send .wait) [.ok 3, .ok 2]).radio.answers = ([3, 2] : List Byte).map RadioAnswer.ok ++ []
    ∧ (∀ x ∈ ([3, 2] : List Byte), modeIs t64.profile x modeStandby = false) := by decide

/-- One position of each loop, with a failing radio. -/
theorem witness_FailedReadEndsEveryLoop :
    ∀ c ∈ [(Instr.setmode 5, Pos.mode .command .poll), (.send, .mode .sendSettle .ready), (.send, .send .poll),
        (.sendrecv, .send .wait), (.recv, .recv .poll), (.sendrecv, .recv .byte), (.recv, .mode .recvSettle .enter)],
      WellFormed c.1 ∧ (running c.1 c.2 [.fail]).pos = some c.2 ∧ c.2.belongs c.1 = true
        ∧ (running c.1 c.2 [.fail]).errLatched = false ∧ (running c.1 c.2 [.fail]).nextAnswer = .fail
        ∧ (withErr (running c.1 c.2 [.fail])).pos = some c.2 ∧ (withErr (running c.1 c.2 [.fail])).errLatched = true := by
  decide

/-- The first read of a `SetMode` fails at the start of SETMODE (M7) and of a send, and of a `SettleIdle`. -/
theorem witness_FailedReadEndsEveryLoop_first :
    (CallsMode (.setmode 5) .command 5 (running (.setmode 5) .start [.fail])
      ∧ BeginsMode .command (running (.setmode 5) .start [.fail]))
    ∧ (CallsMode .send .sendStandby 1 (withTx [] 64 (running .send .start [.fail]))
      ∧ BeginsMode .sendStandby (withTx [] 64 (running .send .start [.fail])))
    ∧ (CallsMode .sendrecv .recvSettle 0 (running .sendrecv (.mode .recvSettle .enter) [.fail])
      ∧ BeginsMode .recvSettle (running .sendrecv (.mode .recvSettle .enter) [.fail]))
    ∧ (withTx [] 64 (running .send .start [.fail])).nextAnswer = .fail
    ∧ (∀ c ∈ [(Instr.setmode 5, Pos.start), (.send, .start), (.sendrecv, .mode .recvSettle .enter)],
        WellFormed c.1 ∧ (running c.1 c.2 [.fail]).pos = some c.2 ∧ c.2.belongs c.1 = true
          ∧ (running c.1 c.2 [.fail]).nextAnswer = .fail) :=
  ⟨⟨⟨rfl, by decide⟩, .inr ⟨by decide, .inl rfl⟩⟩,
    ⟨⟨.inl rfl, rfl⟩, .inr ⟨by decide, .inr ⟨rfl, by decide, by decide⟩⟩⟩,
    ⟨⟨.inr rfl, by decide⟩, .inl (by decide)⟩, by decide, by decide⟩

/-- Every straight-line position, with and without a latched error, and the completion steps of SETMODE and SEND. -/
theorem witness_FailedReadEndsEveryLoop_line :
    (∀ c ∈ [(Instr.setmode 0, Pos.mode .command .write), (.sendrecv, .mode .recvReceiver .write), (.send, .send .clear),
        (.sendrecv, .send .arm), (.send, .send .length), (.send, .send .first), (.sendrecv, .send .stop), (.recv, .start),
        (.sendrecv, .sent), (.recv, .recv .await), (.sendrecv, .recv .clear), (.setmode 5, .finish), (.send, .sent)],
      WellFormed c.1 ∧ (running c.1 c.2 [.fail]).pos = some c.2 ∧ c.2.belongs c.1 = true
        ∧ (running c.1 c.2 [.fail]).errLatched = false ∧ (running c.1 c.2 [.fail]).nextAnswer = .fail
        ∧ (running c.1 c.2 [.ok 0]).nextAnswer = .ok 0
        ∧ (withErr (running c.1 c.2 [.fail])).pos = some c.2 ∧ (withErr (running c.1 c.2 [.fail])).errLatched = true)
    ∧ CallsMode (.setmode 0) .command 0 State.reset ∧ CallsMode .sendrecv .recvReceiver 5 State.reset :=
  ⟨by decide, ⟨rfl, by decide⟩, .inr rfl, rfl⟩

/-- Gated, and not, for GETMODE, SET_FREQ, SET_BR and SET_BW. -/
theorem witness_RegisterCommandRuns :
    ∀ i ∈ [Instr.getmode, .setFreq, .setBr, .setBw],
      (withErr (withArg 1200 (running i .start []))).pos = some .start
        ∧ (withErr (withArg 1200 (running i .start []))).seq.xerr = false
        ∧ (withErr (withArg 1200 (running i .start []))).errLatched = true
        ∧ (withArg 1200 (running i .start [.ok 0, .fail, .ok 0])).operands.arg ≠ 0
        ∧ (withArg 0 (running i .start [])).operands.arg = 0
        ∧ (withArg 1200 (running i .start [.ok 0, .fail, .ok 0])).pos = some .start
        ∧ (withArg 1200 (running i .start [.ok 0, .fail, .ok 0])).seq.xerr = false
        ∧ (withArg 1200 (running i .start [.ok 0, .fail, .ok 0])).errLatched = false
        ∧ (withArg 1200 (running i .start [.ok 0, .fail, .ok 0])).radio.answers = .ok 0 :: .fail :: .ok 0 :: [] := by
  decide

theorem witness_OversizeFatalBeforeGate : (withErr (withTx [] 65 (running .send .start []))).pos = some .start
    ∧ (withErr (withTx [] 65 (running .send .start []))).params.maxPacket
        < (withErr (withTx [] 65 (running .send .start []))).operands.txlen.toNat
    ∧ (withTx [] 0xFFFF (running .sendrecv .start [])).pos = some .start := by decide

theorem witness_GatedFramerCommandsComplete :
    ∀ i ∈ [Instr.send, .recv, .sendrecv], (withErr (withTx [] 64 (running i .start []))).pos = some .start
      ∧ (withErr (withTx [] 64 (running i .start []))).seq.xerr = false
      ∧ (withErr (withTx [] 64 (running i .start []))).errLatched = true
      ∧ (withErr (withTx [] 64 (running i .start []))).operands.txlen.toNat ≤ t64.maxPacket := by decide

/-- Eight answers of a radio that stays in Standby, then settles into Sleep. -/
def sendAnswers : List RadioAnswer := [.ok 1, .ok 0, .ok 0, .ok 0, .ok 0, .ok 1, .ok 0, .ok 0]

theorem witness_SendSingleBurstRun : (withTx [(0, 0xA5)] 63 (running .send .start sendAnswers)).pos = some .start
    ∧ (withTx [(0, 0xA5)] 63 (running .send .start sendAnswers)).errLatched = false
    ∧ (withTx [(0, 0xA5)] 63 (running .send .start sendAnswers)).operands.txlen.toNat + 1 ≤ t64.fifoDepth
    ∧ (withTx [(0, 0xA5)] 63 (running .send .start sendAnswers)).operands.txlen.toNat ≤ t64.maxPacket
    ∧ sendAnswers = .ok 1 :: .ok 0 :: .ok 0 :: .ok 0 :: .ok 0 :: .ok 1 :: .ok 0 :: .ok 0 :: []
    ∧ modeIs t64.profile 1 1 = true ∧ modeIs t64.profile 0 (if (State.reset.csrRead .cfg).getLsbD 8 then 1 else 0) = true := by
  decide

/-- A frame of 65 bytes before its first burst. -/
def firstBurst : State := withSent 0 (withTx [(0, 0xA5)] 64 (running .send (.send .first) [.ok 0]))

theorem witness_SendStreamsFrameInOrder : firstBurst.pos = some (.send .first) ∧ firstBurst.errLatched = false
    ∧ firstBurst.seq.frame.length = firstBurst.seq.frameLen
    ∧ ∃ t, execN .send 1 firstBurst = .next t ∧ inRefill t.pos = true :=
  ⟨by decide, by decide, by decide, _, rfl, by decide⟩

/-- In the refill loop of that frame, 64 bytes sent. -/
def refilling (p : SendPos) (a : RadioAnswer) : State :=
  withSent 64 (withTx [(0, 0xA5)] 64 (running .send (.send p) [a]))

theorem witness_SendRefillPacing : (refilling .poll (.ok 0)).params.wf = true
    ∧ (refilling .poll (.ok 0)).errLatched = false ∧ (refilling .poll (.ok 0)).pos = some (.send .poll)
    ∧ (refilling .poll (.ok 0)).nextAnswer = .ok 0 ∧ (refilling .pace (.ok 0)).pos = some (.send .pace)
    ∧ (refilling .refill (.ok 0)).pos = some (.send .refill)
    ∧ firstBurst.pos = some (.send .first) ∧ firstBurst.errLatched = false ∧ firstBurst.nextAnswer = .ok 0
    ∧ (refilling .first .fail).pos = some (.send .first) ∧ (refilling .first .fail).nextAnswer = .fail
    ∧ (refilling .refill .fail).nextAnswer = .fail
    ∧ (refilling .refill (.ok 0)).seq.sent < (refilling .refill (.ok 0)).seq.frameLen := by decide

/-- 15 bytes in the FIFO is THRESH: the flag is 0; the FIFO is empty before the first burst. -/
theorem witness_SendNeverOverrunsFifo :
    ((refilling .poll (.ok 0)).params.wf = true ∧ inSendBody (refilling .poll (.ok 0)).pos = true
        ∧ FifoRoom 15 (refilling .poll (.ok 0)) ∧ LevelFlagTrue 15 (refilling .poll (.ok 0))
        ∧ ∃ t, exec .send (refilling .poll (.ok 0)) = .next t)
      ∧ FifoRoom 0 firstBurst ∧ FifoRoom 15 (refilling .refill (.ok 0)) := by
  refine ⟨⟨by decide, by decide, ⟨by decide, by decide, by decide⟩, ?_, _, rfl⟩, ⟨by decide, by decide, by decide⟩,
    ⟨by decide, by decide, by decide⟩⟩
  intro f hf
  cases hf
  decide

/-- The stream 0x12, 0x80, sentinel. -/
def packetAnswers : List RadioAnswer :=
  [.ok 0, .ok 5, .ok 0, .ok 0x6E, .ok 0, .ok 0x12, .ok 0, .ok 0x80, .ok 0, .ok 0, .ok 0, .ok 0]

theorem witness_ReceiveDeliversPacket : (running .recv .start packetAnswers).pos = some .start
    ∧ (running .recv .start packetAnswers).errLatched = false
    ∧ Memory.wf (running .recv .start packetAnswers).rxbuf = true
    ∧ ([0x12, 0x80] : List Byte).length ≤ t64.rxbufSize ∧ t64.rxbufSize ≤ 1024
    ∧ (∀ b ∈ ([0x12, 0x80] : List Byte), b ≠ 0) ∧ flagSet 0 t64.profile.mFifoEmpty = false
    ∧ packetAnswers = .ok 0 :: .ok 5 :: .ok 0 :: .ok 0x6E
        :: (byteAnswers 0 ([0x12, 0x80] ++ [0]) ++ .ok 0 :: .ok 0 :: [])
    ∧ modeIs t64.profile 5 5 = true ∧ modeIs t64.profile 0 (if (State.reset.csrRead .cfg).getLsbD 8 then 1 else 0) = true := by
  decide

/-- A receive at its RSSI sample, with TIMEOUT 501. -/
def sampling (answers : List RadioAnswer) : State :=
  { running .recv (.recv .rssi) answers with operands := { State.reset.operands with timeout := 501 } }

/-- From the sample: 501 microseconds are two BYTETIMEs begun; the sample itself with ERR = 1, good, and failing. -/
theorem witness_EmptyFifoTimesOut_start :
    (sampling [.ok 0x6E, .ok 0x40, .ok 0x40, .ok 0x40]).pos = some (.recv .rssi)
    ∧ (sampling [.ok 0x6E, .ok 0x40, .ok 0x40, .ok 0x40]).errLatched = false
    ∧ (sampling []).operands.bytetime ≠ 0
    ∧ 2 = ((sampling []).operands.timeout.toNat + (sampling []).operands.bytetime.toNat - 1)
        / (sampling []).operands.bytetime.toNat
    ∧ flagSet 0x40 t64.profile.mFifoEmpty = true
    ∧ (sampling [.ok 0x6E, .ok 0x40, .ok 0x40, .ok 0x40]).radio.answers
        = .ok 0x6E :: (List.replicate (2 + 1) (.ok 0x40) ++ [])
    ∧ (sampling [.ok 0x6E]).nextAnswer = .ok 0x6E ∧ (sampling [.fail]).nextAnswer = .fail
    ∧ (withErr (sampling [])).errLatched = true := by decide

theorem witness_EmptyFifoTimesOut :
    (inLoop .poll 501 [.ok 0x40, .ok 0x40, .ok 0x40]).pos = some (.recv .poll)
    ∧ (inLoop .poll 501 [.ok 0x40, .ok 0x40, .ok 0x40]).errLatched = false
    ∧ (inLoop .poll 501 [.ok 0x40, .ok 0x40, .ok 0x40]).operands.bytetime ≠ 0
    ∧ 2 = (501 + State.reset.operands.bytetime.toNat - 1) / State.reset.operands.bytetime.toNat
    ∧ flagSet 0x40 t64.profile.mFifoEmpty = true
    ∧ (inLoop .poll 501 [.ok 0x40, .ok 0x40, .ok 0x40]).radio.answers = List.replicate (2 + 1) (.ok 0x40) ++ [] := by
  decide

theorem witness_EmptyPollSpendsBudget :
    (inLoop .poll 1 [.ok 0x40]).pos = some (.recv .poll) ∧ (inLoop .poll 1 [.ok 0x40]).errLatched = false
    ∧ (inLoop .poll 1 [.ok 0x40]).nextAnswer = .ok 0x40 ∧ flagSet 0x40 t64.profile.mFifoEmpty = true
    ∧ 0 < (inLoop .poll 1 [.ok 0x40]).seq.budget ∧ (inLoop .poll 0 [.ok 0x40]).seq.budget = 0
    ∧ (inLoop .sleep 1 []).pos = some (.recv .sleep) := by decide

theorem witness_ReceivedByteIsStored :
    (inLoop .poll 0 [.ok 0]).pos = some (.recv .poll) ∧ flagSet 0 t64.profile.mFifoEmpty = false
    ∧ (inLoop .byte 0 [.ok 0x7F]).pos = some (.recv .byte) ∧ (inLoop .byte 0 [.ok 0x7F]).errLatched = false
    ∧ (inLoop .byte 0 [.ok 0x7F]).nextAnswer = .ok 0x7F ∧ Memory.wf (inLoop .byte 0 [.ok 0x7F]).rxbuf = true
    ∧ (withRx [] 63 0 (running .recv (.recv .byte) [.ok 0x7F])).seq.count ≠ t64.rxbufSize
    ∧ (withRx [] 64 0 (running .recv (.recv .byte) [.ok 0x7F])).seq.count = t64.rxbufSize := by decide

theorem witness_SentinelDropsOneGlitch :
    ∀ b ∈ ([0x80, 0xC0, 0x7F] : List Byte),
      (withRx [(0, b)] 1 0 (running .recv (.recv .byte) [.ok 0])).pos = some (.recv .byte)
        ∧ (withRx [(0, b)] 1 0 (running .recv (.recv .byte) [.ok 0])).errLatched = false
        ∧ (withRx [(0, b)] 1 0 (running .recv (.recv .byte) [.ok 0])).nextAnswer = .ok 0
        ∧ 0 < (withRx [(0, b)] 1 0 (running .recv (.recv .byte) [.ok 0])).seq.count := by decide

theorem witness_ReceiveResultCommitted : ∀ o ∈ [RxOutcome.packet, .timeout, .overflow, .abort],
    ((running .recv .finish []).setOutcome o).pos = some .finish
      ∧ ((running .recv .finish []).setOutcome o).seq.outcome = o
      ∧ ((running .recv .finish []).setOutcome o).seq.count < 2 ^ 32 := by decide

theorem witness_ByteLoopMeasureFalls : inByteLoop (inLoop .sleep 1 []).pos = true
    ∧ (inLoop .sleep 1 []).seq.count ≤ t64.rxbufSize ∧ 0 < (inLoop .sleep 1 []).seq.budget
    ∧ (inLoop .sleep 1 []).operands.bytetime ≠ 0 ∧ ∃ t, exec .recv (inLoop .sleep 1 []) = .next t :=
  ⟨by decide, by decide, by decide, by decide, _, rfl⟩

/-- A send part as in `sendAnswers`, then a receive with an empty FIFO. -/
def sendrecvAnswers : List RadioAnswer :=
  sendAnswers ++ [.ok 0, .ok 5, .ok 0, .ok 0x64, .ok 0x40, .ok 0, .ok 0]

theorem witness_SendrecvRun : (withTx [(0, 1)] 1 (running .sendrecv .start sendrecvAnswers)).pos = some .start
    ∧ (withTx [(0, 1)] 1 (running .sendrecv .start sendrecvAnswers)).errLatched = false
    ∧ (withTx [(0, 1)] 1 (running .sendrecv .start sendrecvAnswers)).operands.txlen.toNat ≤ t64.maxPacket
    ∧ (withTx [(0, 1)] 1 (running .sendrecv .start sendrecvAnswers)).operands.txlen.toNat + 1 ≤ t64.fifoDepth
    ∧ (withTx [(0, 1)] 1 (running .sendrecv .start sendrecvAnswers)).operands.timeout = 0
    ∧ sendrecvAnswers = .ok 1 :: .ok 0 :: .ok 0 :: .ok 0 :: .ok 0 :: .ok 1 :: .ok 0 :: .ok 0
        :: .ok 0 :: .ok 5 :: .ok 0 :: .ok 0x64 :: .ok 0x40 :: .ok 0 :: .ok 0 :: []
    ∧ modeIs t64.profile 1 1 = true ∧ modeIs t64.profile 0 (if (State.reset.csrRead .cfg).getLsbD 8 then 1 else 0) = true
    ∧ modeIs t64.profile 5 5 = true ∧ flagSet 0x40 t64.profile.mFifoEmpty = true := by decide

theorem witness_SendrecvSkipsReceive : (running .sendrecv .sent []).pos = some .sent
    ∧ (withErr (running .sendrecv .sent [])).errLatched = true ∧ (running .sendrecv .sent []).errLatched = false := by
  decide

theorem witness_OperandReadback : State.reset.flags.busy = false ∧ (0xFFFF0000 : Word) &&& 0xFFFF = 0
    ∧ (0x1 : Word) &&& 0xFFFF ≠ 0 := by decide

/-- The host writes of each register of R22 but CMD, not busy. -/
theorem witness_OperandReadback_writes :
    ∀ a ∈ [0x018, 0x020, 0x024, 0x034, 0x038, 0x03C, 0x040, 0x004, 0x008, 0x00C, 0x010, 0x014, 0x01C, 0x028, 0x02C, 0x030,
        0x044, 0x048, 0x04C],
      accessOffset t64 32 (BitVec.ofNat 32 a) = some a
        ∧ (hosting (.write 32 (BitVec.ofNat 32 a) 5) State.reset).hostTurn = some (.write 32 (BitVec.ofNat 32 a) 5)
        ∧ (hosting (.write 32 (BitVec.ofNat 32 a) 5) State.reset).params.wf = true
        ∧ (hosting (.write 32 (BitVec.ofNat 32 a) 5) State.reset).flags.busy = false := by decide

/-- At the first and last register, TXBUF at its first and last entry, STATUS, IE and CMD. -/
theorem witness_BusyHostWrites : ∀ a ∈ [0x018, 0x03C, 0x1000, 0x1FFC, 0x004, 0x040, 0x000],
    (busyHost (.write 32 (BitVec.ofNat 32 a) 5)).params.wf = true
      ∧ (busyHost (.write 32 (BitVec.ofNat 32 a) 5)).flags.busy = true
      ∧ (busyHost (.write 32 (BitVec.ofNat 32 a) 5)).hostTurn = some (.write 32 (BitVec.ofNat 32 a) 5)
      ∧ accessOffset t64 32 (BitVec.ofNat 32 a) = some a := by decide

/-- The ends of each reserved range in T64. -/
theorem witness_ReservedReadsZero : ∀ a ∈ [0x050, 0xFFC, 0x1100, 0x1FFC, 0x2100, 0x2FFC, 0x3000, 0x3FFC],
    accessOffset t64 32 (BitVec.ofNat 32 a) = some a
      ∧ ((0x050 ≤ a ∧ a < 0x1000) ∨ (0x1000 + 4 * t64.maxPacket ≤ a ∧ a < 0x2000)
        ∨ (0x2000 + 4 * t64.rxbufSize ≤ a ∧ a < 0x3000) ∨ 0x3000 ≤ a)
      ∧ (hosting (.read 32 (BitVec.ofNat 32 a)) State.reset).hostTurn = some (.read 32 (BitVec.ofNat 32 a))
      ∧ (hosting (.write 32 (BitVec.ofNat 32 a) 5) State.reset).hostTurn = some (.write 32 (BitVec.ofNat 32 a) 5) := by
  decide

theorem witness_MisalignedAccessRefused : (16 ≠ 32 ∨ (0x018 : Word).toNat % 4 ≠ 0)
    ∧ (32 ≠ 32 ∨ (0x01A : Word).toNat % 4 ≠ 0)
    ∧ (hosting (.read 16 0x018) State.reset).hostTurn = some (.read 16 0x018)
    ∧ (hosting (.write 32 0x01A 5) State.reset).hostTurn = some (.write 32 0x01A 5) := by decide

/-- CMD, the first offset of the window, and the last offset. -/
theorem witness_HostReadHasNoSideEffect :
    ((hosting (.read 32 0x000) State.reset).params.wf = true ∧ t64.base.toNat ≤ (0x000 : Word).toNat
      ∧ (0x000 : Word).toNat % 4 = 0 ∧ (hosting (.read 32 0x000) State.reset).hostTurn = some (.read 32 0x000))
    ∧ (0x3FFC : Word).toNat < t64.base.toNat + 0x4000 ∧ (0x3FFC : Word).toNat % 4 = 0
    ∧ (hosting (.read 32 0x3FFC) State.reset).hostTurn = some (.read 32 0x3FFC) := by decide

theorem witness_CommandIssue : accessOffset t64 32 0 = some 0
    ∧ (hosting (.write 32 0 0x30) State.reset).hostTurn = some (.write 32 0 0x30)
    ∧ (hosting (.write 32 0 0x30) State.reset).params.wf = true
    ∧ (hosting (.write 32 0 0x30) State.reset).fatal.fatal = false
    ∧ (hosting (.write 32 0 0x30) State.reset).flags.busy = false
    ∧ (hosting (.write 32 0 0x30) faulted).fatal.fatal = true ∧ (busyHost (.write 32 0 0x30)).flags.busy = true := by
  decide

/-- The last entries of both buffers of T64. -/
theorem witness_BufferHostAccess :
    63 < t64.maxPacket ∧ (hosting (.write 32 0x10FC 0x1FF) State.reset).flags.busy = false
    ∧ Memory.wf (hosting (.write 32 0x10FC 0x1FF) State.reset).txbuf = true
    ∧ accessOffset t64 32 0x10FC = some (0x1000 + 4 * 63)
    ∧ (hosting (.write 32 0x10FC 0x1FF) State.reset).hostTurn = some (.write 32 0x10FC 0x1FF)
    ∧ 63 < t64.rxbufSize ∧ accessOffset t64 32 0x20FC = some (0x2000 + 4 * 63)
    ∧ (hosting (.write 32 0x20FC 7) State.reset).hostTurn = some (.write 32 0x20FC 7) := by decide

theorem witness_StatusBitsAndIrqLevel : (0x00000002 : Word).getLsbD 1 = true := by decide

theorem witness_BlockResetValues : (busyHost .reset).params.wf = true ∧ (busyHost .reset).hostTurn = some .reset := by
  decide

/-- A step of each class of command answers a next state: the hypothesis of the whole-machine rules. -/
theorem witness_WholeMachineRules : ∃ t u v, exec .nop (running .nop .start []) = .next t
    ∧ exec .setFreq (running .setFreq .start [.ok 0]) = .next u
    ∧ exec .recv (inLoop .byte 0 [.ok 0x7F]) = .next v := ⟨_, _, _, rfl, rfl, rfl⟩

/-- ERR is latched by a failed write, cleared by a `SettleIdle`'s first read, and latched anew when that read fails. -/
theorem witness_GroupsHaveTheirWriters_err :
    (∃ t, exec .recv (running .recv (.recv .clear) [.fail]) = .next t ∧ t.errAddrWord = 0x23F#32)
    ∧ (∃ t, exec .send (withErr (running .send (.mode .sendSettle .enter) [.ok 0])) = .next t
        ∧ (!t.errLatched && t.errAddrWord == 0x207) = true)
    ∧ ∃ t, exec .send (withErr (running .send (.mode .sendSettle .enter) [.fail])) = .next t
        ∧ (t.errLatched && t.errAddrWord == 0x101) = true :=
  ⟨⟨_, rfl, by decide⟩, exists_of_nextIs (by decide), exists_of_nextIs (by decide)⟩

/-- A byte step that stores, and one that drops a glitch byte. -/
theorem witness_GroupsHaveTheirWriters :
    (∃ t, exec .recv (inLoop .byte 0 [.ok 0x7F]) = .next t
      ∧ (t.seq.phase != .idle && memRead t.rxbuf 1 != memRead (inLoop .byte 0 [.ok 0x7F]).rxbuf 1) = true)
    ∧ ∃ t, exec .sendrecv (withRx [(0, 0x80)] 1 0 (running .sendrecv (.recv .byte) [.ok 0])) = .next t
      ∧ (t.glitchCnt != (running .sendrecv (.recv .byte) [.ok 0]).glitchCnt) = true :=
  ⟨exists_of_nextIs (by decide), exists_of_nextIs (by decide)⟩

/-- A failing burst of address 0x00, kind 3; a latched error at a step that is no `SetMode`'s first. -/
theorem witness_LatchedErrorBlocksTransactions :
    (∃ t, exec .send (refilling .refill .fail) = .next t
      ∧ (t.radio.log == [.burst 0x00 [0] .fail] && t.errAddrWord == 0x300) = true)
    ∧ failedTxn (.burst 0x00 [0] .fail) = some (.burst, 0x00) ∧ ∃ t, exec .send (withErr (refilling .wait (.ok 0))) = .next t
    ∧ (withErr (refilling .wait (.ok 0))).errLatched = true
    ∧ (withErr (refilling .wait (.ok 0))).pos = some (.send .wait) :=
  ⟨exists_of_nextIs (by decide), by decide, _, rfl, by decide, by decide⟩

/-- M8: SETMODE's poll after its failed write makes no transaction. -/
theorem witness_LatchedErrorBlocksTransactions_setmode :
    (withErr (running (.setmode 1) (.mode .command .poll) [.ok 1])).errLatched = true
    ∧ (withErr (running (.setmode 1) (.mode .command .poll) [.ok 1])).pos = some (.mode .command .poll)
    ∧ nextIs (exec (.setmode 1) (withErr (running (.setmode 1) (.mode .command .poll) [.ok 1])))
        (fun t => t.radio.drawn == 0 && t.pos == some .finish) = true := by decide

/-- A `SettleIdle` clears ERR; a faulted block stays faulted. -/
theorem witness_OnlyResetOrTransitionClears :
    (PhaseCoherent (withErr (running .send (.mode .sendSettle .enter) [.ok 0]))
      ∧ StatusCoherent (withErr (running .send (.mode .sendSettle .enter) [.ok 0]))
      ∧ (withErr (running .send (.mode .sendSettle .enter) [.ok 0])).hostTurn = none
      ∧ ∃ t, step (withErr (running .send (.mode .sendSettle .enter) [.ok 0])) = .next t
        ∧ (!t.errLatched) = true)
    ∧ (withErr (running .send (.mode .sendSettle .enter) [.ok 0])).errLatched = true
    ∧ PhaseCoherent faulted ∧ StatusCoherent faulted ∧ faulted.fatal.fatal = true
    ∧ ∃ t, step faulted = .next t ∧ t.fatal.fatal = true :=
  ⟨⟨by decide, by decide, by decide, exists_of_nextIs (by decide)⟩, by decide, by decide, by decide, by decide,
    exists_of_nextIs (by decide)⟩

/-- A running receive meets the invariant and steps. -/
theorem witness_StepKeepsInvariant : Inv (inLoop .byte 0 [.ok 0x7F]) ∧ ∃ t, step (inLoop .byte 0 [.ok 0x7F]) = .next t :=
  ⟨⟨by decide, by decide, by decide, by decide, by decide⟩, _, rfl⟩

theorem witness_InvariantStatesGoOn : WellFormed .recv ∧ (inLoop .byte 0 [.ok 0x7F]).pos = some (.recv .byte)
    ∧ (Pos.recv .byte).belongs .recv = true ∧ (inLoop .byte 0 [.ok 0x7F]).params.wf = true
    ∧ (inLoop .byte 0 [.ok 0x7F]).hostTurn = none := by decide

end Sys2Proof.Tests
end

section
/-! PROOFS. The host side of the register file and the memories (20_memory.md, R60, R61, R64): which accesses are refused,
what is reserved, and what a busy block ignores. -/

namespace Sys2Proof.Machine

open Sys2Proof.Config

/-! ### Addresses: the accesses with a meaning, and the reserved offsets -/

/-- Only a 32-bit access has an offset. -/
theorem bits_of_accessOffset {p : Params} {bits off : Nat} {a : Word} (h : accessOffset p bits a = some off) :
    bits = 32 := by
  unfold accessOffset at h
  split at h
  case isTrue hc => exact hc.1
  case isFalse => cases h

/-- An access of another width, or off the 4-byte grid, has none. -/
theorem accessOffset_eq_none {p : Params} {bits : Nat} {a : Word} (h : bits ≠ 32 ∨ a.toNat % 4 ≠ 0) :
    accessOffset p bits a = none := by
  refine if_neg fun ⟨hbits, _, _, halign⟩ => ?_
  exact h.elim (· hbits) (· halign)

theorem Csr.offset_lt (r : Csr) : r.offset < 0x050 := by cases r <;> decide

/-- Past the last register no register stands (R22). -/
theorem find_csr_eq_none {off : Nat} (h : 0x050 ≤ off) : csrList.find? (fun r => r.offset == off) = none := by
  refine List.find?_eq_none.mpr fun r _ he => ?_
  have hr := r.offset_lt
  have : r.offset = off := beq_iff_eq.mp he
  omega

/-- The offsets that R61 reserves under the parameters `p`: after the registers, after each buffer, and after RXBUF's page. -/
def ReservedOffset (p : Params) (off : Nat) : Prop :=
  (0x050 ≤ off ∧ off < 0x1000) ∨ (0x1000 + 4 * p.maxPacket ≤ off ∧ off < 0x2000)
    ∨ (0x2000 + 4 * p.rxbufSize ≤ off ∧ off < 0x3000) ∨ 0x3000 ≤ off

theorem targetOf_reserved {p : Params} {off : Nat} (h : ReservedOffset p off) : targetOf p off = .reserved := by
  rcases h with ⟨hlo, hhi⟩ | ⟨hlo, hhi⟩ | ⟨hlo, hhi⟩ | hlo
  · simp only [targetOf, if_pos hhi, find_csr_eq_none hlo]
  · rw [targetOf, if_neg (by omega), if_pos hhi, if_neg (by omega)]
  · rw [targetOf, if_neg (by omega), if_neg (by omega), if_pos hhi, if_neg (by omega)]
  · rw [targetOf, if_neg (by omega), if_neg (by omega), if_neg (by omega)]

/-- An offset of TXBUF's page names an entry of TXBUF or is reserved (R45, R61). -/
theorem targetOf_txPage {p : Params} {off : Nat} (hlo : 0x1000 ≤ off) (hhi : off < 0x2000) :
    (∃ k, targetOf p off = .txbuf k) ∨ targetOf p off = .reserved := by
  rw [targetOf, if_neg (by omega), if_pos hhi]
  split
  · exact .inl ⟨_, rfl⟩
  · exact .inr rfl

/-! ### Writes to a busy block (R64) -/

/-- The registers that a host write sets and a command reads (R64). -/
def operandCsrs : List Csr := [.arg, .txlen, .timeout, .cfg, .bytetime, .pace]

theorem csrWrite_operand_busy {s : State} {r : Csr} (hr : r ∈ operandCsrs) (hb : s.flags.busy = true) (v : Word) :
    s.csrWrite r v = s := by
  have hw : s.csrWrite r v = s.writeOperand r v := by
    simp only [operandCsrs, List.mem_cons, List.not_mem_nil, or_false] at hr
    rcases hr with rfl | rfl | rfl | rfl | rfl | rfl <;> rfl
  rw [hw, State.writeOperand, if_pos hb]

theorem writeTx_busy {s : State} (hb : s.flags.busy = true) (k : Nat) (v : Word) : s.writeTx k v = s := if_pos hb

theorem issue_busy {s : State} (hb : s.flags.busy = true) (w : Word) : s.issue w = s.dropCommand := by
  rw [State.issue, if_pos hb, ite_self]

/-! ### Operands and TXBUF during a command (R64) -/

theorem BlockMove.operands {s t : State} (h : BlockMove s t) : t.operands = s.operands := by
  cases h with
  | body b => exact b.operands
  | fatal c v h => rw [h, raiseFatal_operands]
  | completePure e h => rw [h, completePure_operands]
  | completeDevice e r h => rw [h, completeDevice_operands]

theorem BlockMove.txbuf {s t : State} (h : BlockMove s t) : t.txbuf = s.txbuf := by
  cases h with
  | body b => exact b.txbuf
  | fatal c v h => rw [h, raiseFatal_txbuf]
  | completePure e h => rw [h, completePure_txbuf]
  | completeDevice e r h => rw [h, completeDevice_txbuf]

/-! ### Bits under a mask -/

theorem flagBit_and_eq_zero {i : Nat} {m : Word} (h : (1#32 <<< i) &&& m = 0) (b : Bool) : flagBit i b &&& m = 0 := by
  cases b
  · exact BitVec.zero_and
  · exact h

theorem or_and_eq_zero {x y m : Word} (hx : x &&& m = 0) (hy : y &&& m = 0) : (x ||| y) &&& m = 0 := by
  rw [BitVec.and_or_distrib_right, hx, hy]
  rfl

/-- A mask of none of the low `n` bits hides a field of `n` bits. -/
theorem setWidth_and_eq_zero {n : Nat} {m : Word} (h : m.setWidth n = 0) (x : BitVec n) : x.setWidth 32 &&& m = 0 := by
  refine BitVec.eq_of_getLsbD_eq fun i hi => ?_
  by_cases hn : i < n
  · have hm : (m.setWidth n).getLsbD i = false := by rw [h]; exact BitVec.getLsbD_zero
    rw [BitVec.getLsbD_setWidth, decide_eq_true hn, Bool.true_and] at hm
    rw [BitVec.getLsbD_and, hm, Bool.and_false]
    exact BitVec.getLsbD_zero.symm
  · simp [BitVec.getLsbD_of_ge x i (by omega)]

theorem shiftLeft_and_eq_zero {x m : Word} {k : Nat} (h : x &&& (m >>> k) = 0) : (x <<< k) &&& m = 0 := by
  refine BitVec.eq_of_getLsbD_eq fun i hi => ?_
  by_cases hk : i < k
  · simp [hk]
  · have hx : (x &&& (m >>> k)).getLsbD (i - k) = false := by rw [h]; exact BitVec.getLsbD_zero
    rw [BitVec.getLsbD_and, BitVec.getLsbD_ushiftRight, Nat.add_sub_cancel' (by omega)] at hx
    rw [BitVec.getLsbD_and, BitVec.getLsbD_shiftLeft, Bool.and_assoc, hx, Bool.and_false]
    exact BitVec.getLsbD_zero.symm

/-- A field read under a mask of all its bits. -/
theorem extractLsb'_and_of_allOnes {lo n : Nat} {m : Word} (h : m.extractLsb' lo n = BitVec.allOnes n) (v : Word) :
    (v &&& m).extractLsb' lo n = v.extractLsb' lo n := by
  rw [BitVec.extractLsb'_and, h, BitVec.and_allOnes]

/-- The low half of a written value under its mask. -/
theorem lowHalf_and_mask (v : Word) : (v &&& 0xFFFF).extractLsb' 0 16 = v.extractLsb' 0 16 :=
  extractLsb'_and_of_allOnes (by decide) v

/-- A bit read under a mask that has it. -/
theorem getLsbD_and_of_mask {i : Nat} {m : Word} (h : m.getLsbD i = true) (v : Word) :
    (v &&& m).getLsbD i = v.getLsbD i := by
  rw [BitVec.getLsbD_and, h, Bool.and_true]

/-! ### Reserved bits read 0 (R61) -/

/-- Bits 31:11 (R24). -/
theorem statusWord_reserved (s : State) : s.statusWord &&& 0xFFFFF800 = 0 := by
  unfold State.statusWord
  iterate 10 refine or_and_eq_zero ?_ (flagBit_and_eq_zero (by decide) _)
  exact flagBit_and_eq_zero (by decide) _

/-- Bits 31:11 and bit 7 (R26). -/
theorem errAddrWord_reserved (s : State) : s.errAddrWord &&& 0xFFFFF880 = 0 := by
  have hmask : (0xFFFFF880 : Word) = BitVec.allOnes 21 ++ (0 : BitVec 3) ++ (1 : BitVec 1) ++ (0 : BitVec 7) := by decide
  rw [hmask, State.errAddrWord, BitVec.and_append, BitVec.and_append, BitVec.and_append]
  simp

/-- Bits 31:9 and 7:6 (R36). -/
theorem cfgWord_reserved (s : State) : s.cfgWord &&& 0xFFFFFEC0 = 0 :=
  or_and_eq_zero (setWidth_and_eq_zero (by decide) _) (flagBit_and_eq_zero (by decide) _)

/-- Bits 31:2 (R39). -/
theorem ieWord_reserved (s : State) : s.ieWord &&& 0xFFFFFFFC = 0 :=
  or_and_eq_zero (flagBit_and_eq_zero (by decide) _) (flagBit_and_eq_zero (by decide) _)

/-- Bits 31:17 (R43). -/
theorem param0Word_reserved (p : Params) : param0Word p &&& 0xFFFE0000 = 0 :=
  or_and_eq_zero
    (or_and_eq_zero (setWidth_and_eq_zero (by decide) _) (shiftLeft_and_eq_zero (setWidth_and_eq_zero (by decide) _)))
    (flagBit_and_eq_zero (by decide) _)

/-! ### Reserved bits ignore writes (R61) -/

/-- Bits 1 and 10 alone count (R24). -/
theorem csrWrite_status_mask (s : State) (v : Word) : s.csrWrite .status v = s.csrWrite .status (v &&& 0x402) := by
  simp only [State.csrWrite, State.writeStatus, getLsbD_and_of_mask (m := 0x402) (i := 1) (by decide),
    getLsbD_and_of_mask (m := 0x402) (i := 10) (by decide)]

/-- Bits 1:0 alone count (R39). -/
theorem csrWrite_ie_mask (s : State) (v : Word) : s.csrWrite .ie v = s.csrWrite .ie (v &&& 3) := by
  simp only [State.csrWrite, State.writeIe, getLsbD_and_of_mask (m := 3) (i := 0) (by decide),
    getLsbD_and_of_mask (m := 3) (i := 1) (by decide)]

/-- Bits 15:0 alone count (R31). -/
theorem csrWrite_txlen_mask (s : State) (v : Word) : s.csrWrite .txlen v = s.csrWrite .txlen (v &&& 0xFFFF) := by
  simp only [State.csrWrite, State.writeOperand, Operands.write, lowHalf_and_mask]

/-- Bits 15:0 alone count (R37). -/
theorem csrWrite_bytetime_mask (s : State) (v : Word) :
    s.csrWrite .bytetime v = s.csrWrite .bytetime (v &&& 0xFFFF) := by
  simp only [State.csrWrite, State.writeOperand, Operands.write, storedBytetime, lowHalf_and_mask]

/-- Bits 15:0 alone count (R38). -/
theorem csrWrite_pace_mask (s : State) (v : Word) : s.csrWrite .pace v = s.csrWrite .pace (v &&& 0xFFFF) := by
  simp only [State.csrWrite, State.writeOperand, Operands.write, lowHalf_and_mask]

/-- Bits 8 and 5:0 alone count (R36). -/
theorem csrWrite_cfg_mask (s : State) (v : Word) : s.csrWrite .cfg v = s.csrWrite .cfg (v &&& 0x13F) := by
  simp only [State.csrWrite, State.writeOperand, Operands.write,
    extractLsb'_and_of_allOnes (m := 0x13F) (lo := 0) (n := 6) (by decide),
    getLsbD_and_of_mask (m := 0x13F) (i := 8) (by decide)]

/-! ### The statements of 20_memory.md -/

/-- Settles O45: the host's turn writes its target, which a busy block refuses to change where R64 says so; a block step is
one of `BlockMove`, and none of these writes an operand or TXBUF. -/
theorem busyHostWrites : Obligations.BusyHostWrites := by
  refine ⟨fun s bits a v off hw hb hh ha => ?_, fun i s t h => ?_⟩
  · obtain rfl := bits_of_accessOffset ha
    have hbusy : s.popHost.flags.busy = true := hb
    have hstep := step_hostWrite hw hh ha
    have hcsr : ∀ r : Csr, off = r.offset → step s = .next (s.popHost.csrWrite r v) := by
      rintro r rfl
      rw [hstep, targetOf_offset]
      rfl
    refine ⟨?_, fun h => ⟨_, hcsr .status h, rfl, rfl, hbusy⟩, fun h => ⟨_, hcsr .ie h, rfl, rfl⟩, fun h => ?_⟩
    · rintro (⟨r, hr, h⟩ | ⟨hlo, hhi⟩)
      · rw [hcsr r h, csrWrite_operand_busy hr hbusy]
      · obtain ⟨k, hk⟩ | hres := targetOf_txPage (p := s.params) hlo hhi
        · rw [hstep, hk, State.targetWrite, writeTx_busy hbusy]
        · rw [hstep, hres, State.targetWrite]
    · rw [hcsr .cmd h, State.csrWrite, issue_busy hbusy, State.dropCommand]
      rfl
  · have hm := exec_move h
    exact ⟨hm.operands, fun a => by rw [hm.txbuf]⟩

/-- Settles O46: a reserved offset names no target, and each register's word and write are disjoint from its reserved bits. -/
theorem reservedReadsZero : Obligations.ReservedReadsZero := by
  refine ⟨fun s a v off hw ha hoff => ?_, fun s => ?_⟩
  · have htarget := targetOf_reserved (p := s.params) hoff
    refine ⟨fun hh => ?_, fun hh => ?_⟩
    · rw [step_hostRead hw hh ha, htarget, State.targetRead]
    · rw [step_hostWrite hw hh ha, htarget, State.targetWrite]
  · exact ⟨statusWord_reserved s, errAddrWord_reserved s, setWidth_and_eq_zero (by decide) _,
      setWidth_and_eq_zero (by decide) _, cfgWord_reserved s, setWidth_and_eq_zero (by decide) _,
      setWidth_and_eq_zero (by decide) _, ieWord_reserved s, param0Word_reserved s.params,
      setWidth_and_eq_zero (by decide) _, fun v => ⟨csrWrite_status_mask s v, csrWrite_txlen_mask s v,
        csrWrite_cfg_mask s v, csrWrite_bytetime_mask s v, csrWrite_pace_mask s v, csrWrite_ie_mask s v⟩⟩

/-- Settles O47: such an access has no offset in the window, so the host's turn refuses it. -/
theorem misalignedAccessRefused : Obligations.MisalignedAccessRefused := by
  intro s bits a v hw hbad hturn
  have hnone : accessOffset s.popHost.params bits a = none := accessOffset_eq_none hbad
  obtain hh | hh := hturn
  · rw [step_host hw hh]
    simp only [hostStep, hnone]
  · rw [step_host hw hh]
    simp only [hostStep, hnone]

end Sys2Proof.Machine
end

section
/-! PROOFS. The encoding (30_encoding.md, R90 to R94, R103): `decode` characterised once by the three fields of a word, the
match and mask rows as a condition on the same fields, and NOP. -/

namespace Sys2Proof

variable {rsv : BitVec 21} {mode : BitVec 3} {op : Byte} {w : Word} {i : Instr}

/-! ### A word as its three fields, RSV ++ MODE ++ OP (R90) -/

@[simp] theorem rsvField_append : rsvField (rsv ++ mode ++ op) = rsv := by
  rw [rsvField, BitVec.append_assoc, BitVec.cast_eq]
  exact BitVec.extractLsb'_append_eq_left

@[simp] theorem modeField_append : modeField (rsv ++ mode ++ op) = mode := by
  rw [modeField, BitVec.extractLsb'_append_eq_of_le (by decide)]
  exact BitVec.extractLsb'_append_eq_right

@[simp] theorem opField_append : opField (rsv ++ mode ++ op) = op :=
  BitVec.extractLsb'_append_eq_right

theorem rsvField_and (w v : Word) : rsvField (w &&& v) = rsvField w &&& rsvField v := BitVec.extractLsb'_and

theorem modeField_and (w v : Word) : modeField (w &&& v) = modeField w &&& modeField v := BitVec.extractLsb'_and

theorem opField_and (w v : Word) : opField (w &&& v) = opField w &&& opField v := BitVec.extractLsb'_and

theorem append_fields_eq (w : Word) : rsvField w ++ modeField w ++ opField w = w := by
  have hhigh : rsvField w ++ modeField w = w.extractLsb' 8 24 :=
    BitVec.extractLsb'_append_extractLsb'_eq_extractLsb' (by decide)
  rw [hhigh]
  exact BitVec.extractLsb'_append_extractLsb'

theorem eq_append_iff :
    w = rsv ++ mode ++ op ↔ rsvField w = rsv ∧ modeField w = mode ∧ opField w = op := by
  constructor
  · rintro rfl
    simp
  · rintro ⟨rfl, rfl, rfl⟩
    exact (append_fields_eq w).symm

/-! ### The decoder by the fields of a word -/

/-- The opcode map reads a command's own OP, and gives SETMODE the MODE field it was handed (R91, R95). -/
theorem commandOfOp_eq_some_iff :
    commandOfOp op mode = some i ↔ op = i.opcode ∧ ∀ t, i = .setmode t → t = mode := by
  constructor
  · intro h
    unfold commandOfOp at h
    split at h <;> cases h
    case h_11 hop => exact ⟨BitVec.eq_of_toNat_eq hop, fun _ ht => (Instr.setmode.inj ht).symm⟩
    all_goals rename_i hop; exact ⟨BitVec.eq_of_toNat_eq hop, nofun⟩
  · rintro ⟨rfl, ht⟩
    cases i with
    | setmode t => rw [ht t rfl]; rfl
    | _ => rfl

/-- For a command read with the field `mode`, R92's conditions on MODE say that it carries `mode` and is well-formed. -/
theorem checkMode_eq_ok_iff {j : Instr} (ht : ∀ t, i = .setmode t → t = mode) :
    checkMode i mode = .ok j ↔ i = j ∧ mode = i.modeBits ∧ WellFormed i := by
  cases i with
  | setmode t =>
    obtain rfl := ht t rfl
    simp only [checkMode]
    split
    case isTrue hle => exact ⟨fun h => ⟨Except.ok.inj h, rfl, decide_eq_true hle⟩, fun h => congrArg _ h.1⟩
    case isFalse hle => exact iff_of_false nofun fun ⟨_, _, hwf⟩ => hle (of_decide_eq_true hwf)
  | _ =>
    simp only [checkMode]
    split
    case isTrue h0 => exact ⟨fun h => ⟨Except.ok.inj h, h0, rfl⟩, fun h => congrArg _ h.1⟩
    case isFalse h0 => exact iff_of_false nofun fun ⟨_, h, _⟩ => h0 h

/-- R92: the words that select the command `i`. -/
theorem decode_eq_ok_iff :
    decode w = .ok i ↔ rsvField w = 0 ∧ modeField w = i.modeBits ∧ opField w = i.opcode ∧ WellFormed i := by
  unfold decode
  constructor
  · intro h
    split at h
    case isTrue => cases h
    case isFalse hrsv =>
      split at h
      case h_1 => cases h
      case h_2 j hj =>
        obtain ⟨hop, ht⟩ := commandOfOp_eq_some_iff.mp hj
        obtain ⟨rfl, hmode, hwf⟩ := (checkMode_eq_ok_iff ht).mp h
        exact ⟨not_not.mp hrsv, hmode, hop, hwf⟩
  · rintro ⟨hrsv, hmode, hop, hwf⟩
    have ht : ∀ t, i = .setmode t → t = modeField w := by
      rintro t rfl
      exact hmode.symm
    rw [if_neg (not_not_intro hrsv), commandOfOp_eq_some_iff.mpr ⟨hop, ht⟩]
    exact (checkMode_eq_ok_iff ht).mpr ⟨rfl, hmode, hwf⟩

/-! ### The match and mask rows by the fields of a word -/

/-- The bits of MODE that R92's mask tests: none in SETMODE, all three in every other command. -/
def Instr.modeMask : Instr → BitVec 3
  | .setmode _ => 0
  | _ => BitVec.allOnes 3

/-- The row of R92 that a command belongs to. -/
def Instr.row (i : Instr) : OpcodeRow where
  mask := BitVec.allOnes 21 ++ i.modeMask ++ BitVec.allOnes 8
  pattern := (0 : BitVec 21) ++ (0 : BitVec 3) ++ i.opcode
  mnemonic := i.mnemonic

/-- A command is SETMODE, or it has no operand and its MODE field is tested whole. -/
theorem Instr.setmode_or_plain (i : Instr) :
    (∃ m, i = .setmode m)
      ∨ (i.modeMask = BitVec.allOnes 3 ∧ i.modeBits = 0 ∧ WellFormed i ∧ i.mnemonic ≠ "SETMODE") := by
  cases i with
  | setmode m => exact .inl ⟨m, rfl⟩
  | _ => exact .inr ⟨rfl, rfl, rfl, by decide⟩

/-- One command for each row of `opcodeRows`, in its order. -/
def rowCommands : List Instr :=
  [.nop, .freqEnc, .freqDec, .brEnc, .brDec, .bwEnc, .bwDec, .setFreq, .setBr, .setBw, .setmode 0, .getmode, .send,
    .recv, .sendrecv]

theorem opcodeRows_eq_map_row : opcodeRows = rowCommands.map Instr.row := by decide

/-- SETMODE's row is the same at every mode. -/
theorem Instr.row_mem_opcodeRows (i : Instr) : i.row ∈ opcodeRows := by
  rw [opcodeRows_eq_map_row]
  cases i with
  | setmode m => exact List.mem_map.mpr ⟨.setmode 0, by decide, rfl⟩
  | _ => exact List.mem_map_of_mem (by decide)

theorem exists_row_eq_of_mem_opcodeRows {r : OpcodeRow} (h : r ∈ opcodeRows) : ∃ i : Instr, i.row = r := by
  rw [opcodeRows_eq_map_row, List.mem_map] at h
  obtain ⟨i, -, hi⟩ := h
  exact ⟨i, hi⟩

/-- What it is to match a row: RSV = 0, MODE = 0 where the row's mask tests it, and the row's OP. -/
theorem and_row_mask_eq_pattern_iff :
    w &&& i.row.mask = i.row.pattern ↔ rsvField w = 0 ∧ modeField w &&& i.modeMask = 0 ∧ opField w = i.opcode := by
  rw [Instr.row, eq_append_iff, rsvField_and, modeField_and, opField_and, rsvField_append, modeField_append,
    opField_append, BitVec.and_allOnes, BitVec.and_allOnes]

/-! ### The statement of R92 -/

/-- Settles O3: a word decodes to a command, and matches a row, by conditions on the same three fields. -/
theorem wordSelectsCommandByMask : Obligations.WordSelectsCommandByMask := by
  refine fun w => ⟨fun i hdec => ?_, fun r hr hmatch hbound => ?_⟩
  · obtain ⟨hrsv, hmode, hop, hwf⟩ := decode_eq_ok_iff.mp hdec
    refine ⟨i.row, i.row_mem_opcodeRows, rfl, ?_⟩
    rw [and_row_mask_eq_pattern_iff, hmode]
    obtain ⟨m, rfl⟩ | ⟨-, hbits, -, hname⟩ := i.setmode_or_plain
    · exact ⟨⟨hrsv, BitVec.and_zero, hop⟩, fun _ => of_decide_eq_true hwf⟩
    · rw [hbits]
      exact ⟨⟨hrsv, BitVec.zero_and, hop⟩, fun h => absurd h hname⟩
  · obtain ⟨i, rfl⟩ := exists_row_eq_of_mem_opcodeRows hr
    obtain ⟨hrsv, hmode, hop⟩ := and_row_mask_eq_pattern_iff.mp hmatch
    obtain ⟨m, rfl⟩ | ⟨hmask, hbits, hwf, -⟩ := i.setmode_or_plain
    · exact ⟨.setmode (modeField w), decode_eq_ok_iff.mpr ⟨hrsv, rfl, hop, decide_eq_true (hbound rfl)⟩, rfl⟩
    · rw [hmask, BitVec.and_allOnes] at hmode
      exact ⟨i, decode_eq_ok_iff.mpr ⟨hrsv, hmode.trans hbits.symm, hop, hwf⟩, rfl⟩

end Sys2Proof

namespace Sys2Proof.Machine

/-! ### NOP -/

theorem completed_completePure (s : State) : Completed s.flags.xerr s.completePure :=
  ⟨completePure_flags_busy s, completePure_flags_done s, completePure_flags_xerr s, completePure_seq_phase s⟩

/-- Completion after writing the encode group keeps the frame of a pure command (R98, R99). -/
theorem pureFrame_completePure (s : State) (e : EncodeGroup) : PureFrame s (State.completePure { s with enc := e }) :=
  ⟨rfl, rfl, rfl, ⟨rfl, rfl, rfl, rfl, fun _ => rfl, rfl⟩, rfl, rfl, fun _ => rfl⟩

/-- Settles O8: NOP's one step is the completion of a pure command (R103), which leaves the encode group as it was. -/
theorem nopCompletes : Obligations.NopCompletes := fun s =>
  ⟨by decide, s.completePure, rfl, completed_completePure s, completePure_enc s, pureFrame_completePure s s.enc⟩

end Sys2Proof.Machine
end

section
/-! PROOFS. The numeric encoder (40_numeric_encoder.md, R111 to R117, R122 to R125): a pure command's result and its frame
said once, the bounds of the conversions, and `BwSelect` as a search of a list that falls in bandwidth. -/

namespace Sys2Proof.Machine

open Sys2Proof.Config

/-! ### The two ends of a numeric command: its result committed, or a fatal fault -/

theorem encodeResult_res {res : Nat} (h : res < 2 ^ 32) (range : Bool) (s : State) :
    (encodeResult res range s).enc.res.toNat = res :=
  Nat.mod_eq_of_lt h

@[simp] theorem encodeResult_range (res : Nat) (range : Bool) (s : State) :
    (encodeResult res range s).enc.range = range := rfl

theorem completed_encodeResult (res : Nat) (range : Bool) (s : State) :
    Completed s.flags.xerr (encodeResult res range s) :=
  completed_completePure (s.commitEncode (trunc32 res) range)

theorem pureFrame_encodeResult (res : Nat) (range : Bool) (s : State) : PureFrame s (encodeResult res range s) :=
  pureFrame_completePure s { res := trunc32 res, range := range }

theorem raisedFatal_raiseFatal (c : FatalCause) (v : Word) (s : State) : RaisedFatal c v s (s.raiseFatal c v) :=
  ⟨rfl, rfl, rfl, rfl, rfl, rfl, rfl, rfl, rfl, rfl, ⟨rfl, rfl, rfl, rfl, fun _ => rfl, rfl⟩, rfl, rfl, fun _ => rfl⟩

/-! ### Operands (R95) -/

theorem argFreqRaw_eq_mod (s : State) : s.argFreqRaw = s.operands.arg.toNat % 2 ^ 24 :=
  BitVec.extractLsb'_toNat ..

theorem argBitrateRaw_eq_mod (s : State) : s.argBitrateRaw = s.operands.arg.toNat % 2 ^ 16 :=
  BitVec.extractLsb'_toNat ..

theorem argNat_eq_zero_iff (s : State) : s.argNat = 0 ↔ s.operands.arg = 0 :=
  (BitVec.toNat_eq (y := 0)).symm

/-! ### Bounds of the conversions (R111, R112, R114, R115) -/

theorem freqWord_gt_iff (hz : Nat) : 0xFFFFFF < freqWord hz ↔ 1023999970 ≤ hz := by
  rw [freqWord, roundDiv, fosc, ← Nat.succ_le_iff, Nat.le_div_iff_mul_le (by decide)]
  omega

theorem freqEncRaw_lt (hz : Nat) : freqEncRaw hz < 2 ^ 24 := Nat.mod_lt _ (by decide)

theorem freqDec_le {raw : Nat} (h : raw < 2 ^ 24) : freqDec raw ≤ 1023999938 := by
  rw [freqDec, fosc]
  omega

theorem bitrateDivider_gt_iff {bps : Nat} (h : bps ≠ 0) : 0xFFFF < bitrateDivider bps ↔ bps ≤ 488 := by
  rw [bitrateDivider, fosc, ← Nat.succ_le_iff, Nat.le_div_iff_mul_le (Nat.pos_of_ne_zero h)]
  omega

theorem brEncRaw_lt (bps : Nat) : brEncRaw bps < 2 ^ 16 := Nat.mod_lt _ (by decide)

theorem brDec_le {raw : Nat} (h : raw ≠ 0) : brDec raw ≤ 32000000 := by
  rw [brDec, bitrateDivider, fosc]
  refine Nat.div_le_of_le_mul ?_
  omega

/-! ### The statements on frequency and bit rate -/

/-- Settles O9: `freqWord` passes 24 bits from 1,023,999,970 Hz on, and its low 24 bits fit RES. -/
theorem freqEncResult : Obligations.FreqEncResult := by
  intro s
  have hres := encodeResult_res ((freqEncRaw_lt s.argNat).trans (by decide)) (freqEncRange s.argNat) s
  have hrange : freqEncRange s.argNat = true ↔ 0xFFFFFF < freqWord s.argNat := decide_eq_true_iff
  exact ⟨by decide, _, rfl, hres, hrange, hrange.trans (freqWord_gt_iff _), completed_encodeResult ..,
    pureFrame_encodeResult ..⟩

/-- Settles O10: the frequency of a 24-bit word fits RES. -/
theorem freqDecResult : Obligations.FreqDecResult := by
  intro s
  have hraw : s.argFreqRaw < 2 ^ 24 := BitVec.isLt _
  have hle := freqDec_le hraw
  have hres := encodeResult_res (hle.trans_lt (by decide)) false s
  refine ⟨by decide, _, rfl, ?_, hres.trans_le hle, encodeResult_range .., completed_encodeResult ..,
    pureFrame_encodeResult ..⟩
  rw [hres, freqDec, argFreqRaw_eq_mod, fosc]

/-- Settles O11: the fatal test is on ARG itself; a nonzero rate has a divider above 16 bits up to 488 bps. -/
theorem brEncResult : Obligations.BrEncResult := by
  intro s
  refine ⟨by decide, _, rfl, fun h0 => ?_, fun h0 => ?_⟩
  · rw [if_pos ((argNat_eq_zero_iff s).mpr h0)]
    exact raisedFatal_raiseFatal ..
  · have hbps : s.argNat ≠ 0 := mt (argNat_eq_zero_iff s).mp h0
    have hres := encodeResult_res ((brEncRaw_lt s.argNat).trans (by decide)) (brEncRange s.argNat) s
    have hrange : brEncRange s.argNat = true ↔ 0xFFFF < bitrateDivider s.argNat := decide_eq_true_iff
    rw [if_neg hbps]
    exact ⟨hres, hrange, hrange.trans (bitrateDivider_gt_iff hbps), completed_encodeResult ..,
      pureFrame_encodeResult ..⟩

/-- Settles O12: the fatal test is on ARG[15:0]; the rate of a nonzero divider is at most FOSC and fits RES. -/
theorem brDecResult : Obligations.BrDecResult := by
  intro s
  rw [← argBitrateRaw_eq_mod]
  refine ⟨by decide, _, rfl, fun h0 => ?_, fun h0 => ?_⟩
  · rw [if_pos h0]
    exact raisedFatal_raiseFatal ..
  · have hle := brDec_le h0
    have hres := encodeResult_res (hle.trans_lt (by decide)) false s
    rw [if_neg h0]
    exact ⟨hres, hres.trans_le hle, encodeResult_range .., completed_encodeResult .., pureFrame_encodeResult ..⟩

/-! ### The search of R118, one setting at a time -/

section Search

variable {hz : Nat} {above : Option Bandwidth} {a b hi lo : Bandwidth} {l rest : List Bandwidth}

theorem bwSearch_cons_of_le (h : hz ≤ bwHz b) : bwSearch hz above (b :: rest) = bwSearch hz (some b) rest := if_pos h

theorem bwSearch_none_cons_of_lt (h : bwHz b < hz) : bwSearch hz none (b :: rest) = b := if_neg (Nat.not_le.mpr h)

theorem bwSearch_some_cons_of_lt (h : bwHz b < hz) :
    bwSearch hz (some a) (b :: rest) = if hz - bwHz b < bwHz a - hz then b else a :=
  if_neg (Nat.not_le.mpr h)

/-- With no setting below the request the search ends on the last one. -/
theorem bwSearch_of_forall_le (h : ∀ x ∈ l, hz ≤ bwHz x) :
    bwSearch hz above l = (l.getLast?.or above).getD ⟨24, 7⟩ := by
  induction l generalizing above with
  | nil => rfl
  | cons b rest ih =>
    obtain ⟨hb, hrest⟩ := List.forall_mem_cons.mp h
    rw [bwSearch_cons_of_le hb, ih hrest]
    cases rest <;> rfl

/-- Each setting has a greater bandwidth than all that follow. -/
def Falling (l : List Bandwidth) : Prop := l.Pairwise fun x y => bwHz y < bwHz x

/-- The neighbours of the request `hz` in `l` (R117): `hi` has the least bandwidth at or above it, `lo` the greatest
below. -/
structure Neighbours (hz : Nat) (l : List Bandwidth) (hi lo : Bandwidth) : Prop where
  hi_mem : hi ∈ l
  lo_mem : lo ∈ l
  le_hi : hz ≤ bwHz hi
  lo_lt : bwHz lo < hz
  hi_least : ∀ x ∈ l, hz ≤ bwHz x → bwHz hi ≤ bwHz x
  lo_greatest : ∀ x ∈ l, bwHz x < hz → bwHz x ≤ bwHz lo

/-- While a later setting is still at or above the request, neither neighbour is the first one. -/
theorem Neighbours.tail (hn : Neighbours hz (a :: b :: rest) hi lo) (hf : Falling (a :: b :: rest)) (hb : hz ≤ bwHz b) :
    Neighbours hz (b :: rest) hi lo := by
  have hba : bwHz b < bwHz a := List.rel_of_pairwise_cons hf List.mem_cons_self
  have hhi : hi ≠ a := by
    rintro rfl
    exact absurd (hn.hi_least b (by simp) hb) (Nat.not_le.mpr hba)
  have hlo : lo ≠ a := by
    rintro rfl
    exact absurd hn.lo_lt (Nat.not_lt.mpr (hb.trans hba.le))
  exact
    { hi_mem := List.mem_of_ne_of_mem hhi hn.hi_mem
      lo_mem := List.mem_of_ne_of_mem hlo hn.lo_mem
      le_hi := hn.le_hi
      lo_lt := hn.lo_lt
      hi_least := fun x hx => hn.hi_least x (List.mem_cons_of_mem a hx)
      lo_greatest := fun x hx => hn.lo_greatest x (List.mem_cons_of_mem a hx) }

/-- Where the bandwidth first falls below the request, the two settings it falls between are the neighbours. -/
theorem Neighbours.eq_of_lt (hn : Neighbours hz (a :: b :: rest) hi lo) (hf : Falling (a :: b :: rest))
    (ha : hz ≤ bwHz a) (hb : bwHz b < hz) : hi = a ∧ lo = b := by
  have hrest : ∀ x ∈ rest, bwHz x < bwHz b := fun x hx => List.rel_of_pairwise_cons hf.of_cons hx
  have hhi := hn.le_hi
  have hlo := hn.lo_lt
  have hge := hn.lo_greatest b (by simp) hb
  constructor
  · obtain h | h | h : hi = a ∨ hi = b ∨ hi ∈ rest := by simpa using hn.hi_mem
    · exact h
    · subst h; omega
    · have := hrest hi h; omega
  · obtain h | h | h : lo = a ∨ lo = b ∨ lo ∈ rest := by simpa using hn.lo_mem
    · subst h; omega
    · exact h
    · have := hrest lo h; omega

/-- On a falling list the search returns the nearer neighbour, the one at or above on a tie. -/
theorem bwSearch_eq_nearer (ha : hz ≤ bwHz a) (hf : Falling (a :: l)) (hn : Neighbours hz (a :: l) hi lo) :
    bwSearch hz (some a) l = if hz - bwHz lo < bwHz hi - hz then lo else hi := by
  induction l generalizing a with
  | nil =>
    have hlo : lo = a := List.mem_singleton.mp hn.lo_mem
    exact absurd hn.lo_lt (Nat.not_lt.mpr (hlo ▸ ha))
  | cons b rest ih =>
    obtain hb | hb := Nat.lt_or_ge (bwHz b) hz
    · obtain ⟨rfl, rfl⟩ := hn.eq_of_lt hf ha hb
      exact bwSearch_some_cons_of_lt hb
    · rw [bwSearch_cons_of_le hb]
      exact ih hb hf.of_cons (hn.tail hf hb)

end Search

/-! ### `BwSelect` on the achievable set -/

theorem achievable_falling : Falling achievable := by
  unfold Falling
  decide

theorem achievable_eq_cons : achievable = ⟨16, 1⟩ :: achievable.tail := rfl

theorem bwSelect_of_le_floor {hz : Nat} (h : hz ≤ 2604) : bwSelect hz = ⟨24, 7⟩ := by
  have hfloor : ∀ x ∈ achievable, 2604 ≤ bwHz x := by decide
  exact bwSearch_of_forall_le fun x hx => h.trans (hfloor x hx)

/-- At the ceiling itself the first setting is exact; above it, nothing is at or above the request. -/
theorem bwSelect_of_ceiling_le {hz : Nat} (h : 250000 ≤ hz) : bwSelect hz = ⟨16, 1⟩ := by
  obtain rfl | hlt := h.eq_or_lt
  · decide
  · exact bwSearch_none_cons_of_lt hlt

theorem bwSelect_eq_nearer {hz : Nat} {hi lo : Bandwidth} (h : hz ≤ 250000) (hn : Neighbours hz achievable hi lo) :
    bwSelect hz = if hz - bwHz lo < bwHz hi - hz then lo else hi := by
  have hf := achievable_falling
  rw [achievable_eq_cons] at hn hf
  rw [bwSelect, achievable_eq_cons, bwSearch_cons_of_le h]
  exact bwSearch_eq_nearer h hf hn

/-- Settles O13: the two clamps, and the search of a falling list between them. -/
theorem bwSelectNearest : Obligations.BwSelectNearest := fun _ =>
  ⟨bwSelect_of_le_floor, bwSelect_of_ceiling_le, fun _ hlt _ hhi _ hlo hle hlow hleast hgreatest =>
    bwSelect_eq_nearer hlt.le ⟨hhi, hlo, hle, hlow, hleast, hgreatest⟩⟩

end Sys2Proof.Machine
end

section
/-! PROOFS. The register commands GETMODE, SET_FREQ, SET_BR and SET_BW (41_mode_and_register_commands.md, R144 to R147): each
is the gate, a straight line of transactions, and a commit. The line is followed one transaction at a time, once for all
four: `AnsweredOk` while the radio answers, `FailedAt` from the first failure on. -/

namespace Sys2Proof.Machine

open Sys2Proof.Config

/-! ### Running a command -/

theorem execN_succ {i : Instr} {s t : State} (h : exec i s = .next t) (k : Nat) : execN i (k + 1) s = execN i k t := by
  simp only [execN, h]

theorem gate_latched {s : State} (h : s.errLatched = true) (gated body : State → State) :
    s.gate gated body = (gated s).completeDevice := if_pos h

theorem gate_clear {s : State} (h : s.errLatched = false) (gated body : State → State) :
    s.gate gated body = body s := if_neg (Bool.eq_false_iff.mp h)

theorem completed_completeDevice (s : State) : Completed s.seq.xerr s.completeDevice :=
  ⟨completeDevice_flags_busy s, completeDevice_flags_done s, completeDevice_flags_xerr s, completeDevice_seq_phase s⟩

theorem completed_setFinish (res : Nat) (range : Bool) (s : State) : Completed s.seq.xerr (setFinish res range s) :=
  completed_completeDevice (s.commitEncode (trunc32 res) range)

/-! ### The frame of a device command -/

theorem DeviceFrame.trans {s t u : State} (h : DeviceFrame s t) (h' : DeviceFrame t u) : DeviceFrame s u := by
  obtain ⟨hfatal, ⟨hparams, hops, hie, hlost, htx, hhost⟩, hrx, hglitch, hrxbuf⟩ := h
  obtain ⟨hfatal', ⟨hparams', hops', hie', hlost', htx', hhost'⟩, hrx', hglitch', hrxbuf'⟩ := h'
  exact ⟨hfatal'.trans hfatal, ⟨hparams'.trans hparams, hops'.trans hops, hie'.trans hie, hlost'.trans hlost,
    fun a => (htx' a).trans (htx a), hhost'.trans hhost⟩, hrx'.trans hrx, hglitch'.trans hglitch,
    fun a => (hrxbuf' a).trans (hrxbuf a)⟩

theorem QuietStep.deviceFrame {s t : State} (h : QuietStep s t) : DeviceFrame s t :=
  ⟨h.fatal, ⟨h.params, h.operands, h.ie, congrArg _ h.flags, fun _ => congrArg (memRead · _) h.txbuf, h.host⟩,
    h.rx, h.glitchCnt, fun _ => congrArg (memRead · _) h.rxbuf⟩

theorem deviceFrame_completeDevice (s : State) : DeviceFrame s s.completeDevice :=
  ⟨rfl, ⟨rfl, rfl, rfl, rfl, fun _ => rfl, rfl⟩, rfl, rfl, fun _ => rfl⟩

theorem DeviceFrame.finish {s t : State} {res : Nat} {range : Bool} (h : DeviceFrame s t) :
    DeviceFrame s (setFinish res range t) :=
  h.trans (deviceFrame_completeDevice (t.commitEncode (trunc32 res) range))

/-- What a register command leaves that the gate stops: XERR = 0 and nothing else of its own (R98). -/
theorem gated_completes {s : State} (hx : s.seq.xerr = false) :
    Completed false s.completeDevice ∧ s.completeDevice.enc = s.enc ∧ s.completeDevice.err = s.err
      ∧ s.completeDevice.radio = s.radio ∧ DeviceFrame s s.completeDevice :=
  ⟨hx ▸ completed_completeDevice s, rfl, rfl, rfl, deviceFrame_completeDevice s⟩

/-! ### A register write of a SET command -/

section

variable {a : RegAddr} {v : Byte} {p q : Pos} {s : State}

@[simp] theorem setWrite_params : (setWrite a v p s).params = s.params := (setWrite_quiet a v p s).params

@[simp] theorem setWrite_argNat : (setWrite a v p s).argNat = s.argNat :=
  congrArg (·.arg.toNat) (setWrite_quiet a v p s).operands

theorem setWrite_pos (h : s.pos = some q) : (setWrite a v p s).pos = some p := by
  rw [setWrite, pos_goto, (rwrite_port a v s).pos, h, Option.map_some]

theorem deviceFrame_setWrite : DeviceFrame s (setWrite a v p s) := (setWrite_quiet a v p s).deviceFrame

end

/-! ### A line of transactions: no failure so far, or one latched (R67, R68, R211) -/

/-- On the way from `s` to `t` the radio answered every transaction: the record has grown by `txns`, newest first, the
answers `rest` are pending, and ERR = 0. -/
structure AnsweredOk (s t : State) (txns : List Txn) (rest : List RadioAnswer) : Prop where
  port : PortRan s t txns rest
  err : t.err = s.err
  xerr : t.seq.xerr = s.seq.xerr
  clear : t.errLatched = false

/-- On the way from `s` to `t` a transaction of kind `k` at `a` failed, and the latch of R211 names it: the record has grown by
`txns`, newest first, and the answers `rest` are pending. -/
structure FailedAt (k : TxnKind) (a : RegAddr) (s t : State) (txns : List Txn) (rest : List RadioAnswer) : Prop where
  port : PortRan s t txns rest
  latched : LatchedAt k a t
  xerr : t.seq.xerr = true

section

variable {s t : State} {k : TxnKind} {a a' : RegAddr} {v b : Byte} {p : Pos} {txns : List Txn} {rest : List RadioAnswer}

theorem AnsweredOk.refl (he : s.errLatched = false) (ha : s.radio.answers = rest) : AnsweredOk s s [] rest :=
  ⟨⟨rfl, ha⟩, rfl, rfl, he⟩

theorem AnsweredOk.write_ok (h : AnsweredOk s t txns (.ok b :: rest)) :
    AnsweredOk s (setWrite a v p t) (.write a v (.ok b) :: txns) rest := by
  obtain ⟨⟨hlog, hans⟩, herr, hxerr, hclear⟩ := h
  rw [setWrite, rwrite_ok hclear (nextAnswer_cons hans)]
  exact ⟨⟨congrArg (_ :: ·) hlog, congrArg List.tail hans⟩, herr, hxerr, hclear⟩

theorem AnsweredOk.write_fail (h : AnsweredOk s t txns (.fail :: rest)) :
    FailedAt .write a s (setWrite a v p t) (.write a v .fail :: txns) rest := by
  obtain ⟨⟨hlog, hans⟩, -, -, hclear⟩ := h
  rw [setWrite, rwrite_fail hclear (nextAnswer_cons hans)]
  exact ⟨⟨congrArg (_ :: ·) hlog, congrArg List.tail hans⟩, ⟨rfl, rfl, rfl⟩, rfl⟩

/-- After a failure a write is a no-op. -/
theorem FailedAt.write (h : FailedAt k a s t txns rest) : FailedAt k a s (setWrite a' v p t) txns rest := by
  obtain ⟨hport, hlatched, hxerr⟩ := h
  have he : t.errLatched = true := beq_iff_eq.mpr hlatched.1
  rw [setWrite, rwrite_latched he]
  exact ⟨hport, hlatched, hxerr⟩

theorem AnsweredOk.finish {res : Nat} {range : Bool} (h : AnsweredOk s t txns rest) (hx : s.seq.xerr = false) :
    Completed false (setFinish res range t) ∧ (setFinish res range t).err = s.err
      ∧ PortRan s (setFinish res range t) txns rest :=
  ⟨h.xerr.trans hx ▸ completed_setFinish res range t, h.err, h.port⟩

theorem FailedAt.finish {res : Nat} {range : Bool} (h : FailedAt k a s t txns rest) :
    Completed true (setFinish res range t) ∧ LatchedAt k a (setFinish res range t)
      ∧ PortRan s (setFinish res range t) txns rest :=
  ⟨h.xerr ▸ completed_setFinish res range t, h.latched, h.port⟩

end

/-! ### GETMODE (R144) -/

theorem modeOf_zero (p : RadioProfile) : modeOf p 0 = 0 := by
  have hfield : 0 &&& p.mMode = 0 := BitVec.zero_and
  rw [modeOf, hfield]
  exact BitVec.zero_ushiftRight

/-- A byte committed to RES. -/
theorem trunc32_toNat (b : Byte) : trunc32 b.toNat = b.setWidth 32 := BitVec.ofNat_toNat ..

section

variable {s : State} {b : Byte} {q : Pos} {rest : List RadioAnswer}

theorem exec_getmode_start (hp : s.pos = some .start) : exec .getmode s = .next (s.gate id getmodeRead) := by
  obtain ⟨w, hw⟩ := pos_eq_some.mp hp
  simp only [exec, execGetmode, hw]

theorem exec_getmode_finish (hp : s.pos = some .finish) :
    exec .getmode s = .next (setFinish (modeOf s.params.profile s.seq.opmode).toNat false s) := by
  obtain ⟨w, hw⟩ := pos_eq_some.mp hp
  simp only [exec, execGetmode, hw]

theorem getmodeRead_pos (hp : s.pos = some q) : (getmodeRead s).pos = some .finish := by
  have hread : ((rread s.params.profile.aOpmode s).keepOpmode (rreadByte s)).pos = some q :=
    (rread_port s.params.profile.aOpmode s).pos.trans hp
  rw [getmodeRead, pos_goto, hread, Option.map_some]

theorem execN_getmode (hp : s.pos = some .start) (he : s.errLatched = false) : execN .getmode 2 s
    = .next (setFinish (modeOf s.params.profile (rreadByte s)).toNat false (getmodeRead s)) := by
  have hstart := exec_getmode_start hp
  rw [gate_clear he] at hstart
  rw [execN_succ hstart, execN_succ (exec_getmode_finish (getmodeRead_pos hp)), (getmodeRead_quiet s).params]
  rfl

theorem getmodeRead_ok (he : s.errLatched = false) (ha : s.radio.answers = .ok b :: rest) :
    AnsweredOk s (getmodeRead s) [.read s.params.profile.aOpmode (.ok b)] rest := by
  rw [getmodeRead, rread_ok he (nextAnswer_cons ha)]
  exact ⟨⟨rfl, congrArg List.tail ha⟩, rfl, rfl, he⟩

theorem getmodeRead_fail (he : s.errLatched = false) (ha : s.radio.answers = .fail :: rest) :
    FailedAt .read s.params.profile.aOpmode s (getmodeRead s) [.read s.params.profile.aOpmode .fail] rest := by
  rw [getmodeRead, rread_fail he (nextAnswer_cons ha)]
  exact ⟨⟨rfl, congrArg List.tail ha⟩, ⟨rfl, rfl, rfl⟩, rfl⟩

theorem rreadByte_cons {x : RadioAnswer} (he : s.errLatched = false) (ha : s.radio.answers = x :: rest) :
    rreadByte s = answerByte x := by
  rw [rreadByte, if_neg (Bool.eq_false_iff.mp he), nextAnswer_cons ha]

end

/-- Settles O25: one read, whose byte the completion takes the mode of; a failed one leaves 0x00, of mode 0. -/
theorem getmodeRun : Obligations.GetmodeRun := by
  refine fun s => ⟨by decide, fun hp hx he => ?_, fun x rest hp hx he ha => ?_⟩
  · exact ⟨_, (exec_getmode_start hp).trans (congrArg _ (gate_latched he ..)), gated_completes hx⟩
  · have hrun := execN_getmode hp he
    rw [rreadByte_cons he ha] at hrun
    have hframe := (getmodeRead_quiet s).deviceFrame
    cases x with
    | ok b =>
      obtain ⟨hdone, herr, hport⟩ := (getmodeRead_ok he ha).finish hx
      refine ⟨_, hrun, hport, rfl, hframe.finish, fun c hc => ⟨?_, hdone, herr⟩, nofun⟩
      rw [← RadioAnswer.ok.inj hc]
      exact trunc32_toNat _
    | fail =>
      obtain ⟨hdone, hlatched, hport⟩ := (getmodeRead_fail he ha).finish
      refine ⟨_, hrun, hport, rfl, hframe.finish, nofun, fun _ => ⟨?_, hdone, hlatched⟩⟩
      rw [answerByte_fail, modeOf_zero]
      rfl

/-! ### SET_FREQ (R145) -/

section

variable {s : State}

theorem exec_setFreq_start (hp : s.pos = some .start) : exec .setFreq s = .next
    (s.gate id (setWrite s.params.profile.aFrfMsb (byteOf (freqEncRaw s.argNat) 2) .write2)) := by
  obtain ⟨w, hw⟩ := pos_eq_some.mp hp
  simp only [exec, execSetFreq, hw]

theorem exec_setFreq_write2 (hp : s.pos = some .write2) : exec .setFreq s = .next
    (setWrite s.params.profile.aFrfMid (byteOf (freqEncRaw s.argNat) 1) .write3 s) := by
  obtain ⟨w, hw⟩ := pos_eq_some.mp hp
  simp only [exec, execSetFreq, hw]

theorem exec_setFreq_write3 (hp : s.pos = some .write3) : exec .setFreq s = .next
    (setWrite s.params.profile.aFrfLsb (byteOf (freqEncRaw s.argNat) 0) .finish s) := by
  obtain ⟨w, hw⟩ := pos_eq_some.mp hp
  simp only [exec, execSetFreq, hw]

theorem exec_setFreq_finish (hp : s.pos = some .finish) :
    exec .setFreq s = .next (setFinish (freqEncRaw s.argNat) (freqEncRange s.argNat) s) := by
  obtain ⟨w, hw⟩ := pos_eq_some.mp hp
  simp only [exec, execSetFreq, hw]

end

/-- The three writes of SET_FREQ: MSB, MID, LSB. -/
def setFreqWrites (s : State) : State :=
  setWrite s.params.profile.aFrfLsb (byteOf (freqEncRaw s.argNat) 0) .finish
    (setWrite s.params.profile.aFrfMid (byteOf (freqEncRaw s.argNat) 1) .write3
      (setWrite s.params.profile.aFrfMsb (byteOf (freqEncRaw s.argNat) 2) .write2 s))

theorem deviceFrame_setFreqWrites (s : State) : DeviceFrame s (setFreqWrites s) :=
  (deviceFrame_setWrite.trans deviceFrame_setWrite).trans deviceFrame_setWrite

theorem execN_setFreq {s : State} (hp : s.pos = some .start) (he : s.errLatched = false) : execN .setFreq 4 s
    = .next (setFinish (freqEncRaw s.argNat) (freqEncRange s.argNat) (setFreqWrites s)) := by
  have hstart := exec_setFreq_start hp
  rw [gate_clear he] at hstart
  rw [execN_succ hstart, execN_succ (exec_setFreq_write2 (setWrite_pos hp)),
    execN_succ (exec_setFreq_write3 (setWrite_pos (setWrite_pos hp))),
    execN_succ (exec_setFreq_finish (setWrite_pos (setWrite_pos (setWrite_pos hp))))]
  simp only [execN, setWrite_params, setWrite_argNat, setFreqWrites]

/-- The low byte is the value truncated to 8 bits. -/
theorem byteOf_zero (v : Nat) : byteOf v 0 = BitVec.ofNat 8 v := congrArg _ (Nat.div_one v)

/-- Settles O26: the three writes while the radio answers, and no more after the first failure; the commit either way. -/
theorem setFreqRun : Obligations.SetFreqRun := by
  refine fun s => ⟨by decide, fun hp hx he => ?_, fun x y z rest hp hx he ha => ?_⟩
  · exact ⟨_, (exec_setFreq_start hp).trans (congrArg _ (gate_latched he ..)), gated_completes hx⟩
  · have h0 := AnsweredOk.refl he ha
    refine ⟨_, _, execN_setFreq hp he, rfl, rfl, rfl, (deviceFrame_setFreqWrites s).finish, ?_⟩
    rw [← byteOf_zero]
    refine ⟨?_, ?_, ?_, ?_⟩
    · rintro b c d rfl rfl rfl
      exact h0.write_ok.write_ok.write_ok.finish hx
    · rintro b c rfl rfl rfl
      exact h0.write_ok.write_ok.write_fail.finish
    · rintro b rfl rfl
      exact h0.write_ok.write_fail.write.finish
    · rintro rfl
      exact h0.write_fail.write.write.finish

/-! ### SET_BR (R146) -/

section

variable {s : State}

theorem exec_setBr_start (hp : s.pos = some .start) : exec .setBr s = .next
    (if s.argNat = 0 then s.raiseFatal .divzero 0x03
      else s.gate id (setWrite s.params.profile.aBitrateMsb (byteOf (brEncRaw s.argNat) 1) .write2)) := by
  obtain ⟨w, hw⟩ := pos_eq_some.mp hp
  simp only [exec, execSetBr, hw]

theorem exec_setBr_write2 (hp : s.pos = some .write2) : exec .setBr s = .next
    (setWrite s.params.profile.aBitrateLsb (byteOf (brEncRaw s.argNat) 0) .finish s) := by
  obtain ⟨w, hw⟩ := pos_eq_some.mp hp
  simp only [exec, execSetBr, hw]

theorem exec_setBr_finish (hp : s.pos = some .finish) :
    exec .setBr s = .next (setFinish (brEncRaw s.argNat) (brEncRange s.argNat) s) := by
  obtain ⟨w, hw⟩ := pos_eq_some.mp hp
  simp only [exec, execSetBr, hw]

end

/-- The two writes of SET_BR: MSB, LSB. -/
def setBrWrites (s : State) : State :=
  setWrite s.params.profile.aBitrateLsb (byteOf (brEncRaw s.argNat) 0) .finish
    (setWrite s.params.profile.aBitrateMsb (byteOf (brEncRaw s.argNat) 1) .write2 s)

theorem deviceFrame_setBrWrites (s : State) : DeviceFrame s (setBrWrites s) :=
  deviceFrame_setWrite.trans deviceFrame_setWrite

theorem execN_setBr {s : State} (hp : s.pos = some .start) (h0 : s.argNat ≠ 0) (he : s.errLatched = false) :
    execN .setBr 3 s = .next (setFinish (brEncRaw s.argNat) (brEncRange s.argNat) (setBrWrites s)) := by
  have hstart := exec_setBr_start hp
  rw [if_neg h0, gate_clear he] at hstart
  rw [execN_succ hstart, execN_succ (exec_setBr_write2 (setWrite_pos hp)),
    execN_succ (exec_setBr_finish (setWrite_pos (setWrite_pos hp)))]
  simp only [execN, setWrite_params, setWrite_argNat, setBrWrites]

/-- Settles O27: the fatal test comes before the gate; then the two writes while the radio answers, and no more after the
first failure; the commit either way. -/
theorem setBrRun : Obligations.SetBrRun := by
  refine fun s => ⟨by decide, fun hp h0 => ?_, fun hp h0 hx he => ?_, fun x y rest hp h0 hx he ha => ?_⟩
  · have hbps : s.argNat = 0 := (argNat_eq_zero_iff s).mpr h0
    exact ⟨_, (exec_setBr_start hp).trans (congrArg _ (if_pos hbps)), raisedFatal_raiseFatal ..⟩
  · have hbps : s.argNat ≠ 0 := mt (argNat_eq_zero_iff s).mp h0
    exact ⟨_, (exec_setBr_start hp).trans (congrArg _ ((if_neg hbps).trans (gate_latched he ..))), gated_completes hx⟩
  · have hbps : s.argNat ≠ 0 := mt (argNat_eq_zero_iff s).mp h0
    have hline := AnsweredOk.refl he ha
    refine ⟨_, _, execN_setBr hp hbps he, rfl, rfl, rfl, (deviceFrame_setBrWrites s).finish, ?_⟩
    rw [← byteOf_zero]
    refine ⟨?_, ?_, ?_⟩
    · rintro b c rfl rfl
      exact hline.write_ok.write_ok.finish hx
    · rintro b rfl rfl
      exact hline.write_ok.write_fail.finish
    · rintro rfl
      exact hline.write_fail.write.finish

/-! ### SET_BW (R147) -/

/-- The search of R118 returns a setting it has visited, or its default. -/
theorem bwSearch_induction {P : Bandwidth → Prop} {hz : Nat} {above : Option Bandwidth} {l : List Bandwidth}
    (hdefault : P ⟨24, 7⟩) (habove : ∀ x ∈ above, P x) (hl : ∀ x ∈ l, P x) : P (bwSearch hz above l) := by
  induction l generalizing above with
  | nil =>
    cases above with
    | none => exact hdefault
    | some a => exact habove a rfl
  | cons b rest ih =>
    obtain ⟨hb, hrest⟩ := List.forall_mem_cons.mp hl
    obtain hlt | hle := Nat.lt_or_ge (bwHz b) hz
    · cases above with
      | none => rwa [bwSearch_none_cons_of_lt hlt]
      | some a =>
        rw [bwSearch_some_cons_of_lt hlt]
        split
        · exact hb
        · exact habove a rfl
    · rw [bwSearch_cons_of_le hle]
      exact ih (fun x hx => Option.mem_some.mp hx ▸ hb) hrest

theorem bwSelect_mem_achievable (hz : Nat) : bwSelect hz ∈ achievable :=
  bwSearch_induction (P := (· ∈ achievable)) (by decide) nofun fun _ hx => hx

/-- Bits 7:5 of the byte of an achievable setting are 0. -/
theorem bwEncByte_lt {b : Bandwidth} (h : b ∈ achievable) : (bwEncByte b).toNat < 32 := by
  have hall : ∀ x ∈ achievable, (bwEncByte x).toNat < 32 := by decide
  exact hall b h

section

variable {s : State}

theorem exec_setBw_start (hp : s.pos = some .start) : exec .setBw s = .next
    (s.gate id (setWrite s.params.profile.aRxbw (bwEncByte (bwSelect s.argNat)) .finish)) := by
  obtain ⟨w, hw⟩ := pos_eq_some.mp hp
  simp only [exec, execSetBw, hw]

theorem exec_setBw_finish (hp : s.pos = some .finish) :
    exec .setBw s = .next (setFinish (bwEncByte (bwSelect s.argNat)).toNat false s) := by
  obtain ⟨w, hw⟩ := pos_eq_some.mp hp
  simp only [exec, execSetBw, hw]

theorem execN_setBw (hp : s.pos = some .start) (he : s.errLatched = false) : execN .setBw 2 s
    = .next (setFinish (bwEncByte (bwSelect s.argNat)).toNat false
      (setWrite s.params.profile.aRxbw (bwEncByte (bwSelect s.argNat)) .finish s)) := by
  have hstart := exec_setBw_start hp
  rw [gate_clear he] at hstart
  rw [execN_succ hstart, execN_succ (exec_setBw_finish (setWrite_pos hp))]
  simp only [execN, setWrite_argNat]

end

/-- Settles O28: one write of the whole byte, and the commit whether or not it failed. -/
theorem setBwRun : Obligations.SetBwRun := by
  refine fun s => ⟨by decide, fun hp hx he => ?_, fun x rest hp hx he ha => ?_⟩
  · exact ⟨_, (exec_setBw_start hp).trans (congrArg _ (gate_latched he ..)), gated_completes hx⟩
  · have hrun := execN_setBw hp he
    have hlt := bwEncByte_lt (bwSelect_mem_achievable s.argNat)
    have hres := trunc32_toNat (bwEncByte (bwSelect s.argNat))
    have hline := AnsweredOk.refl he ha
    cases x with
    | ok b =>
      obtain ⟨hdone, herr, hport⟩ := hline.write_ok.finish hx
      exact ⟨_, _, hrun, rfl, hlt, hport, hres, rfl, deviceFrame_setWrite.finish,
        fun _ _ => ⟨hdone, herr⟩, nofun⟩
    | fail =>
      obtain ⟨hdone, hlatched, hport⟩ := hline.write_fail.finish
      exact ⟨_, _, hrun, rfl, hlt, hport, hres, rfl, deviceFrame_setWrite.finish, nofun,
        fun _ => ⟨hdone, hlatched⟩⟩

end Sys2Proof.Machine
end

section
/-! PROOFS. The packet framer (42_packet_framing.md): how SEND and SENDRECV begin and what the gate leaves (R173, R174, R191),
what one byte of a receive does (R187, R188), and what a receive commits (R190). RECV and SENDRECV receive by the same steps,
so each is stated once for both. -/

namespace Sys2Proof.Machine

open Sys2Proof.Config

/-! ### The framer's steps by position -/

section

variable {i : Instr} {s : State}

theorem exec_send_start (hp : s.pos = some .start) : exec .send s = .next (sendStart id s) := by
  obtain ⟨w, hw⟩ := pos_eq_some.mp hp
  simp only [exec, execSend, hw]

theorem exec_sendrecv_start (hp : s.pos = some .start) : exec .sendrecv s = .next (sendStart State.rxNoOp s) := by
  obtain ⟨w, hw⟩ := pos_eq_some.mp hp
  simp only [exec, execSendrecv, hw]

theorem exec_recv_start (hp : s.pos = some .start) : exec .recv s = .next (receiveGate s) := by
  obtain ⟨w, hw⟩ := pos_eq_some.mp hp
  simp only [exec, execRecv, hw]

theorem exec_recvStep {p : RecvPos} (hi : i = .recv ∨ i = .sendrecv) (hp : s.pos = some (.recv p)) :
    exec i s = .next (recvStep p s) := by
  obtain ⟨w, hw⟩ := pos_eq_some.mp hp
  obtain rfl | rfl := hi
  · simp only [exec, execRecv, hw]
  · simp only [exec, execSendrecv, hw]

theorem exec_receive_finish (hi : i = .recv ∨ i = .sendrecv) (hp : s.pos = some .finish) :
    exec i s = .next s.commitReceive.completeDevice := by
  obtain ⟨w, hw⟩ := pos_eq_some.mp hp
  obtain rfl | rfl := hi
  · simp only [exec, execRecv, hw]
  · simp only [exec, execSendrecv, hw]

/-- A move of a running command arrives. -/
theorem pos_goto_of_running {p q : Pos} (hp : s.pos = some q) : (s.goto p).pos = some p := by
  rw [pos_goto, hp, Option.map_some]

end

/-! ### The length check and the gate (R173, R174, R191) -/

theorem sendStart_oversize {s : State} (hl : s.params.maxPacket < s.txlenNat) (gated : State → State) :
    sendStart gated s = s.raiseFatal .oversize (trunc32 s.txlenNat) := if_pos hl

theorem sendStart_gated {s : State} (hl : s.txlenNat ≤ s.params.maxPacket) (he : s.errLatched = true)
    (gated : State → State) : sendStart gated s = (gated s).completeDevice :=
  (if_neg (Nat.not_lt.mpr hl)).trans (gate_latched he ..)

/-- FINFO of OVERSIZE is TXLEN itself. -/
theorem trunc32_txlenNat (s : State) : trunc32 s.txlenNat = s.operands.txlen.setWidth 32 := BitVec.ofNat_toNat ..

/-- Settles O29: the length check comes first, so neither the gate nor what the gate would do matters. -/
theorem oversizeFatalBeforeGate : Obligations.OversizeFatalBeforeGate := by
  intro s i hi hp hl
  have hfatal (gated : State → State) :
      RaisedFatal .oversize (s.operands.txlen.setWidth 32) s (sendStart gated s) := by
    rw [sendStart_oversize hl, trunc32_txlenNat]
    exact raisedFatal_raiseFatal ..
  obtain rfl | rfl := hi
  · exact ⟨_, exec_send_start hp, hfatal id⟩
  · exact ⟨_, exec_sendrecv_start hp, hfatal State.rxNoOp⟩

/-- A completion that writes the receive group keeps what no block step changes (R65, R99). -/
theorem keepsHostSide_commit (s : State) (r : ReceiveGroup) :
    KeepsHostSide s (State.completeDevice { s with rx := r }) := ⟨rfl, rfl, rfl, rfl, fun _ => rfl, rfl⟩

theorem exec_receive_gated {i : Instr} {s : State}
    (hi : i = .recv ∨ (i = .sendrecv ∧ s.txlenNat ≤ s.params.maxPacket)) (hp : s.pos = some .start)
    (he : s.errLatched = true) : exec i s = .next s.rxNoOp.completeDevice := by
  obtain rfl | ⟨rfl, hl⟩ := hi
  · rw [exec_recv_start hp, receiveGate, gate_latched he]
  · rw [exec_sendrecv_start hp, sendStart_gated hl he]

/-- Settles O30: a gated SEND is the completion alone; a gated receive is `RxNoOp` and the completion. -/
theorem gatedFramerCommandsComplete : Obligations.GatedFramerCommandsComplete := by
  refine fun s hp hx he => ⟨fun hl => ?_, fun i hi => ?_⟩
  · exact ⟨_, (exec_send_start hp).trans (congrArg _ (sendStart_gated hl he id)), gated_completes hx⟩
  · have hdone : Completed false s.rxNoOp.completeDevice := hx ▸ completed_completeDevice s.rxNoOp
    exact ⟨_, exec_receive_gated hi hp he, hdone, rfl, rfl, rfl, rfl, keepsHostSide_commit .., rfl, fun _ => rfl, rfl⟩

/-! ### A byte of the FIFO (R187, R188) -/

section

variable {s : State} {b : Byte}

/-- A poll that finds the FIFO not empty goes on to read a byte. -/
theorem recvPoll_notEmpty (he : s.errLatched = false) (ha : s.nextAnswer = .ok b)
    (hb : flagSet b s.params.profile.mFifoEmpty = false) :
    recvPoll s = (s.transact (.read s.params.profile.aIrqFlags2 (.ok b))).goto (.recv .byte) := by
  simp [recvPoll, rread_ok he ha, rreadByte_ok he ha, he, hb]

theorem recvByte_store (he : s.errLatched = false) (ha : s.nextAnswer = .ok b) (hb : b ≠ 0)
    (hn : s.seq.count ≠ s.params.rxbufSize) :
    recvByte s = (((s.transact (.read s.params.profile.aFifo (.ok b))).writeRx s.seq.count b).setCount
      (s.seq.count + 1)).goto (.recv .poll) := by
  simp only [recvByte, rread_ok he ha, rreadByte_ok he ha, errLatched_transact, transact_seq, transact_params, he, hb, hn,
    Bool.false_eq_true, if_false]

theorem recvByte_full (he : s.errLatched = false) (ha : s.nextAnswer = .ok b) (hb : b ≠ 0)
    (hn : s.seq.count = s.params.rxbufSize) :
    recvByte s = ((s.transact (.read s.params.profile.aFifo (.ok b))).setOutcome .overflow).goto
      (.mode .recvSettle .enter) := by
  simp only [recvByte, rread_ok he ha, rreadByte_ok he ha, errLatched_transact, transact_seq, transact_params, he, hb, hn,
    Bool.false_eq_true, if_true, if_false]

theorem recvByte_sentinel (he : s.errLatched = false) (ha : s.nextAnswer = .ok 0) :
    recvByte s = (s.transact (.read s.params.profile.aFifo (.ok 0))).sentinel.goto (.mode .recvSettle .enter) := by
  simp [recvByte, rread_ok he ha, rreadByte_ok he ha, he]

end

/-- Settles O38: the poll goes on to the byte, and the byte is stored at the count or, with RXBUF full, discarded. -/
theorem receivedByteIsStored : Obligations.ReceivedByteIsStored := by
  refine fun s i b hi he ha => ⟨fun hp hb => ?_, fun hp hb hwf => ?_⟩
  · have hstep := (exec_recvStep hi hp).trans (congrArg _ (recvPoll_notEmpty he ha hb))
    exact ⟨_, hstep, pos_goto_of_running hp, rfl, rfl, rfl⟩
  · have hstep := exec_recvStep hi hp
    by_cases hn : s.seq.count = s.params.rxbufSize
    · rw [recvStep, recvByte_full he ha hb hn] at hstep
      exact ⟨_, hstep, rfl, rfl, fun hne => absurd hn hne, fun _ => ⟨pos_goto_of_running hp, rfl, rfl, fun _ => rfl⟩⟩
    · rw [recvStep, recvByte_store he ha hb hn] at hstep
      exact ⟨_, hstep, rfl, rfl,
        fun _ => ⟨pos_goto_of_running hp, rfl, rfl, fun a => memRead_memWrite s.seq.count a b hwf⟩,
        fun hfull => absurd hfull hn⟩

/-! ### The sentinel (R188) -/

theorem isGlitch_iff (b : Byte) : isGlitch b = true ↔ b = 0x80 ∨ b = 0xC0 := by
  simp only [isGlitch, Bool.or_eq_true, beq_iff_eq]

/-- The last byte stored is a glitch byte. -/
def GlitchAtEnd (s : State) : Prop :=
  0 < s.seq.count ∧ (memRead s.rxbuf (s.seq.count - 1) = 0x80 ∨ memRead s.rxbuf (s.seq.count - 1) = 0xC0)

theorem sentinel_of_glitch {s : State} (h : GlitchAtEnd s) : s.sentinel = s.dropGlitch.setOutcome .packet := by
  obtain ⟨hn, hlast⟩ := h
  exact congrArg _ (if_pos ⟨hn, (isGlitch_iff _).mpr hlast⟩)

theorem sentinel_of_not_glitch {s : State} (h : ¬GlitchAtEnd s) : s.sentinel = s.setOutcome .packet :=
  congrArg _ (if_neg fun ⟨hn, hlast⟩ => h ⟨hn, (isGlitch_iff _).mp hlast⟩)

/-- Settles O39: the sentinel's step, with a glitch byte before it and without one. -/
theorem sentinelDropsOneGlitch : Obligations.SentinelDropsOneGlitch := by
  intro s i hi he ha hp
  have hstep := (exec_recvStep hi hp).trans (congrArg _ (recvByte_sentinel he ha))
  by_cases hg : GlitchAtEnd s
  · rw [sentinel_of_glitch (s := s.transact _) hg] at hstep
    exact ⟨_, hstep, pos_goto_of_running hp, rfl, fun _ => rfl,
      fun _ => ⟨Nat.sub_add_cancel hg.1, rfl, BitVec.toNat_add ..⟩, fun hno => absurd hg hno⟩
  · rw [sentinel_of_not_glitch (s := s.transact _) hg] at hstep
    exact ⟨_, hstep, pos_goto_of_running hp, rfl, fun _ => rfl, fun h => absurd h hg, fun _ => ⟨rfl, rfl, rfl⟩⟩

/-! ### What a receive commits (R190) -/

theorem commitReceive_rxlen_packet {s : State} (ho : s.seq.outcome = .packet) (hn : s.seq.count < 2 ^ 32) :
    s.commitReceive.rx.rxlen.toNat = s.seq.count :=
  (congrArg BitVec.toNat (if_pos ho)).trans (Nat.mod_eq_of_lt hn)

theorem commitReceive_rxlen_no_packet {s : State} (ho : s.seq.outcome ≠ .packet) : s.commitReceive.rx.rxlen = 0 :=
  if_neg ho

/-- Settles O40: the group committed field by field, and the completion that writes nothing else. -/
theorem receiveResultCommitted : Obligations.ReceiveResultCommitted := fun s _ hi hp hn =>
  ⟨_, exec_receive_finish hi hp, completed_completeDevice s.commitReceive,
    rfl, rfl, beq_iff_eq, (commitReceive_rxlen_packet · hn), commitReceive_rxlen_no_packet, rfl, beq_iff_eq, beq_iff_eq,
    rfl, rfl, rfl, rfl, rfl, keepsHostSide_commit .., fun _ => rfl⟩

end Sys2Proof.Machine
end

section
/-! PROOFS. Block reset (70_reset_and_hazards.md, R240, R241): the host's turn that takes it, and the table of reset values. -/

namespace Sys2Proof.Machine

open Sys2Proof.Config

/-- Block reset is taken on the host's turn, whatever the block was doing. -/
theorem step_hostReset {s : State} (hw : s.params.wf = true) (hh : s.hostTurn = some .reset) :
    step s = .next s.popHost.blockReset := step_host hw hh

/-- R240's table for the registers: PARAM0 and PARAM1 hold the instance's parameters, CFG and BYTETIME have values of their
own, every other register reads 0. -/
def resetWord (p : Params) : Csr → Word
  | .cfg => 0x0000000F
  | .bytetime => 500
  | .param0 => param0Word p
  | .param1 => param1Word p
  | .cmd | .status | .err | .erraddr | .fcause | .finfo | .arg | .res | .txlen | .timeout | .rxlen | .rssi | .rssiraw
  | .pace | .ie | .glitchcnt => 0

/-- The words packed from fields hold no parameter: the closed instance `State.reset` reads the same in them. -/
theorem csrRead_blockReset (s : State) (r : Csr) : s.blockReset.csrRead r = resetWord s.params r := by
  cases r with
  | status => exact (by decide : State.reset.csrRead .status = 0)
  | erraddr => exact (by decide : State.reset.csrRead .erraddr = 0)
  | cfg => exact (by decide : State.reset.csrRead .cfg = 0x0000000F)
  | ie => exact (by decide : State.reset.csrRead .ie = 0)
  | _ => rfl

/-- The hardwired registers (R43, R44) read what R240 keeps through a reset. -/
theorem csrRead_eq_resetWord {s : State} {r : Csr} (hr : r = .param0 ∨ r = .param1) :
    s.csrRead r = resetWord s.params r := by
  obtain rfl | rfl := hr
  · rfl
  · rfl

theorem memRead_blockReset (s : State) (a : Nat) :
    memRead s.blockReset.txbuf a = 0 ∧ memRead s.blockReset.rxbuf a = 0 := ⟨memRead_nil a, memRead_nil a⟩

/-- Settles O52: the host's turn takes the reset, and each register of the state it leaves is read off `resetWord`. -/
theorem blockResetValues : Obligations.BlockResetValues := by
  intro s hw hh
  have hcsr := csrRead_blockReset s.popHost
  have hparam : ∀ r, r = Csr.param0 ∨ r = Csr.param1 → s.popHost.blockReset.csrRead r = s.csrRead r := fun r hr =>
    (hcsr r).trans (csrRead_eq_resetWord (s := s) hr).symm
  exact ⟨s.popHost.blockReset, step_hostReset hw hh, rfl, rfl,
    hcsr .cmd, hcsr .status, hcsr .err, hcsr .erraddr, hcsr .fcause, hcsr .finfo, hcsr .arg, hcsr .res,
    hcsr .txlen, hcsr .timeout, hcsr .rxlen, hcsr .rssi, hcsr .rssiraw, hcsr .cfg, hcsr .bytetime, hcsr .pace,
    hcsr .ie, hcsr .glitchcnt, hparam, memRead_blockReset s.popHost, rfl, rfl, rfl⟩

end Sys2Proof.Machine
end

section
/-! PROOFS. Decoding and encoding are inverse (30_encoding.md, R92 to R94, R102): both directions read off
`decode_eq_ok_iff`. -/

namespace Sys2Proof

/-- The three fields of a command's word (R90). -/
theorem fields_encode (i : Instr) :
    rsvField (encode i) = 0 ∧ modeField (encode i) = i.modeBits ∧ opField (encode i) = i.opcode :=
  eq_append_iff.mp rfl

theorem decode_encode {i : Instr} (h : WellFormed i) : decode (encode i) = .ok i := by
  obtain ⟨hrsv, hmode, hop⟩ := fields_encode i
  exact decode_eq_ok_iff.mpr ⟨hrsv, hmode, hop, h⟩

theorem wellFormed_of_decode {w : Word} {i : Instr} (h : decode w = .ok i) : WellFormed i := by
  obtain ⟨-, -, -, hwf⟩ := decode_eq_ok_iff.mp h
  exact hwf

theorem encode_of_decode {w : Word} {i : Instr} (h : decode w = .ok i) : encode i = w := by
  obtain ⟨hrsv, hmode, hop, -⟩ := decode_eq_ok_iff.mp h
  exact (eq_append_iff.mpr ⟨hrsv, hmode, hop⟩).symm

/-- Settles O1: the fields of a command's word are the ones its decoding asks for. -/
theorem decodeEncodeIdentity : Obligations.DecodeEncodeIdentity := fun _ => decode_encode

/-- Settles O2: a decoded word has the three fields of the command's word, and a word is its fields. -/
theorem decodedWordIsItsEncoding : Obligations.DecodedWordIsItsEncoding := fun _ _ h =>
  ⟨wellFormed_of_decode h, encode_of_decode h⟩

/-- Settles O4: each word is the encoding of its command. -/
theorem commandWordsDecode : Obligations.CommandWordsDecode :=
  ⟨decode_encode (i := .nop) rfl, decode_encode (i := .freqEnc) rfl, decode_encode (i := .brDec) rfl,
    decode_encode (i := .setBw) rfl, decode_encode (i := .setmode 5) rfl, decode_encode (i := .getmode) rfl,
    decode_encode (i := .send) rfl, decode_encode (i := .sendrecv) rfl⟩

end Sys2Proof
end

section
/-! PROOFS. One block step by the position it is made from: what a step of `SetMode`, of `SendBody` and of `Receive`
leaves of the hidden state, and the cases of a step of any command (R97, R99, R141, R172, R182). -/

namespace Sys2Proof.Machine

open Sys2Proof.Config

/-! ### The calls of `SetMode` that a command makes (R143, R176, R181, R183, R189) -/

section

variable {i : Instr} {s : State}

theorem callsMode_command {m : BitVec 3} (hm : m.toNat ≤ 5) : CallsMode (.setmode m) .command m s := ⟨rfl, hm⟩

theorem callsMode_sendStandby (hi : i = .send ∨ i = .sendrecv) : CallsMode i .sendStandby modeStandby s := ⟨hi, rfl⟩

theorem callsMode_sendSettle (hi : i = .send ∨ i = .sendrecv) : CallsMode i .sendSettle s.idleMode s :=
  ⟨hi, idleMode_eq s⟩

theorem callsMode_recvReceiver (hi : i = .recv ∨ i = .sendrecv) : CallsMode i .recvReceiver modeReceiver s := ⟨hi, rfl⟩

theorem callsMode_recvSettle (hi : i = .recv ∨ i = .sendrecv) : CallsMode i .recvSettle s.idleMode s :=
  ⟨hi, idleMode_eq s⟩

/-- Every position of a call belongs to the command that makes it, and so does the one after the call. -/
theorem CallsMode.belongs {c : ModeCall} {m : BitVec 3} (h : CallsMode i c m s) :
    (∀ p, (Pos.mode c p).belongs i = true) ∧ (modeReturn c).belongs i = true := by
  cases c with
  | command => obtain ⟨rfl, -⟩ := h; exact ⟨fun _ => rfl, rfl⟩
  | sendStandby => obtain ⟨rfl | rfl, -⟩ := h <;> exact ⟨fun _ => rfl, rfl⟩
  | sendSettle => obtain ⟨rfl | rfl, -⟩ := h <;> exact ⟨fun _ => rfl, rfl⟩
  | recvReceiver => obtain ⟨rfl | rfl, -⟩ := h <;> exact ⟨fun _ => rfl, rfl⟩
  | recvSettle => obtain ⟨rfl | rfl, -⟩ := h <;> exact ⟨fun _ => rfl, rfl⟩

theorem exec_sendStep {p : SendPos} (hi : i = .send ∨ i = .sendrecv) (hp : s.pos = some (.send p)) :
    exec i s = .next (sendStep p s) := by
  obtain ⟨w, hw⟩ := pos_eq_some.mp hp
  obtain rfl | rfl := hi
  · simp only [exec, execSend, hw]
  · simp only [exec, execSendrecv, hw]

end

/-! ### What a step of each part leaves of the hidden state -/

/-- Of the hidden state only phase, xerr and the `A_OPMODE` byte may differ. -/
def ModeSeq (s t : State) : Prop :=
  t.seq = { s.seq with phase := t.seq.phase, xerr := t.seq.xerr, opmode := t.seq.opmode }

/-- Of the hidden state only phase, xerr and the count `sent` may differ. -/
def SendSeq (s t : State) : Prop :=
  t.seq = { s.seq with phase := t.seq.phase, xerr := t.seq.xerr, sent := t.seq.sent }

theorem ModeSeq.trans {s t u : State} (h : ModeSeq s t) (h' : ModeSeq t u) : ModeSeq s u := by
  unfold ModeSeq at *
  rw [h', h]

theorem PortStep.modeSeq {s t : State} (h : PortStep s t) (p : Pos) : ModeSeq s (t.goto p) := by
  rw [ModeSeq, State.goto, h.seq]

theorem PortStep.sendSeq {s t : State} (h : PortStep s t) (p : Pos) : SendSeq s (t.goto p) := by
  rw [SendSeq, State.goto, h.seq]

theorem modeEnter_modeSeq (m : BitVec 3) (c : ModeCall) (s : State) : ModeSeq s (modeEnter m c s) := by
  have hread : ∀ v p, ModeSeq s (((rread s.params.profile.aOpmode s.clearErr).keepOpmode v).goto p) := fun v p => by
    rw [ModeSeq, State.goto, State.keepOpmode, (rread_port s.params.profile.aOpmode s.clearErr).seq]
    rfl
  unfold modeEnter
  dsimp only
  split
  · exact hread _ _
  · split <;> exact hread _ _

theorem modeStep_modeSeq (m : BitVec 3) (c : ModeCall) (p : ModeStep) (s : State) : ModeSeq s (modeStep m c p s) := by
  cases p with
  | enter => exact modeEnter_modeSeq m c s
  | write => exact (rwrite_port _ _ s).modeSeq _
  | poll =>
    simp only [modeStep, modePoll]
    split
    · exact (rread_port _ s).modeSeq _
    · split
      · split <;> exact (rread_port _ s).modeSeq _
      · exact (rread_port _ s).modeSeq _
  | ready =>
    simp only [modeStep, modeReady]
    split
    · exact (rread_port _ s).modeSeq _
    · split <;> exact (rread_port _ s).modeSeq _

theorem sendBurst_sendSeq (k : Nat) (s : State) (p : Pos) : SendSeq s ((sendBurst k s).goto p) := by
  rw [SendSeq, State.goto, sendBurst, State.setSent, (rburst_port _ s).seq]

theorem sendStep_sendSeq (p : SendPos) (s : State) : SendSeq s (sendStep p s) := by
  cases p with
  | clear => exact (rwrite_port _ _ s).sendSeq _
  | arm => exact (rwrite_port _ _ s).sendSeq _
  | length => exact (rwrite_port _ _ s).sendSeq _
  | first => exact sendBurst_sendSeq _ (s.setSent 0) _
  | pace => exact (sleep_port s _).sendSeq _
  | poll =>
    simp only [sendStep, sendPoll]
    split
    · exact (rread_port _ s).sendSeq _
    · split <;> exact (rread_port _ s).sendSeq _
  | refill => exact sendBurst_sendSeq _ s _
  | wait =>
    simp only [sendStep, sendWait]
    split
    · exact (rread_port _ s).sendSeq _
    · split <;> exact (rread_port _ s).sendSeq _
  | stop => exact (rwrite_port _ _ s).sendSeq _

/-! ### Where a step of each part goes -/

theorem pos_eq_none {s : State} : s.pos = none ↔ s.seq.phase = .idle := by
  unfold State.pos
  cases s.seq.phase <;> simp

theorem PortStep.pos_goto {s t : State} {p q : Pos} (h : PortStep s t) (hp : s.pos = some p) :
    (t.goto q).pos = some q := pos_goto_of_running (h.pos.trans hp)

/-- A step of `SetMode` stays in the call or returns from it (R141). -/
theorem modeEnter_pos {m : BitVec 3} {c : ModeCall} {q : Pos} {s : State} (hp : s.pos = some q) :
    (modeEnter m c s).pos = some (modeReturn c) ∨ (modeEnter m c s).pos = some (.mode c .write) := by
  have hread : ∀ v q', (((rread s.params.profile.aOpmode s.clearErr).keepOpmode v).goto q').pos = some q' := fun v q' =>
    pos_goto_of_running (s := (rread s.params.profile.aOpmode s.clearErr).keepOpmode v)
      ((rread_port s.params.profile.aOpmode s.clearErr).pos.trans hp)
  unfold modeEnter
  dsimp only
  split
  · exact .inl (hread _ _)
  · split
    · exact .inl (hread _ _)
    · exact .inr (hread _ _)

theorem modeStep_pos {m : BitVec 3} {c : ModeCall} {q : Pos} {s : State} (p : ModeStep) (hp : s.pos = some q) :
    (modeStep m c p s).pos = some (modeReturn c) ∨ ∃ r, (modeStep m c p s).pos = some (.mode c r) := by
  cases p with
  | enter => exact (modeEnter_pos hp).imp_right fun h => ⟨_, h⟩
  | write => exact .inr ⟨_, (rwrite_port _ _ s).pos_goto hp⟩
  | poll =>
    simp only [modeStep, modePoll]
    split
    · exact .inl ((rread_port _ s).pos_goto hp)
    · split
      · split
        · exact .inr ⟨_, (rread_port _ s).pos_goto hp⟩
        · exact .inl ((rread_port _ s).pos_goto hp)
      · exact .inr ⟨_, (rread_port _ s).pos_goto hp⟩
  | ready =>
    simp only [modeStep, modeReady]
    split
    · exact .inl ((rread_port _ s).pos_goto hp)
    · split
      · exact .inl ((rread_port _ s).pos_goto hp)
      · exact .inr ⟨_, (rread_port _ s).pos_goto hp⟩

theorem setOutcome_pos_goto {s t : State} {p q : Pos} {o : RxOutcome} (h : PortStep s t) (hp : s.pos = some p) :
    ((t.setOutcome o).goto q).pos = some q := pos_goto_of_running (s := t.setOutcome o) (h.pos.trans hp)

theorem sentinel_pos (s : State) : s.sentinel.pos = s.pos := by
  unfold State.sentinel
  split <;> rfl

/-- A step of `Receive` stays in it, goes to its `SettleIdle`, or ends it (R182). -/
theorem recvStep_pos {q : Pos} {s : State} (p : RecvPos) (hp : s.pos = some q) :
    (∃ r, (recvStep p s).pos = some (.recv r)) ∨ (recvStep p s).pos = some (.mode .recvSettle .enter)
      ∨ (recvStep p s).pos = some .finish := by
  cases p with
  | await => exact .inl ⟨_, (rawait_port _ s).pos_goto hp⟩
  | rssi =>
    exact .inl ⟨_, pos_goto_of_running (s := (rread s.params.profile.aRssiValue s).startReceive (rreadByte s))
      ((rread_port _ s).pos.trans hp)⟩
  | poll =>
    have h := rread_port s.params.profile.aIrqFlags2 s
    simp only [recvStep, recvPoll]
    split
    · exact .inr (.inl (h.pos_goto hp))
    · split
      · split
        · exact .inl ⟨_, h.pos_goto hp⟩
        · exact .inr (.inl (setOutcome_pos_goto h hp))
      · exact .inl ⟨_, h.pos_goto hp⟩
  | sleep => exact .inl ⟨_, pos_goto_of_running (s := (sleep _ s).setBudget _) hp⟩
  | byte =>
    have h := rread_port s.params.profile.aFifo s
    simp only [recvStep, recvByte]
    split
    · exact .inr (.inl (h.pos_goto hp))
    · split
      · exact .inr (.inl (pos_goto_of_running ((sentinel_pos _).trans (h.pos.trans hp))))
      · split
        · exact .inr (.inl (setOutcome_pos_goto h hp))
        · exact .inl ⟨_, pos_goto_of_running (s := (State.writeRx _ _ _).setCount _) (h.pos.trans hp)⟩
  | clear => exact .inr (.inr ((rwrite_port _ _ s).pos_goto hp))

/-! ### The cases of a block step -/

/-- The commands that write the encode group (R100): the numeric, the SET commands and GETMODE. -/
def writesEncode : Instr → Bool
  | .nop | .setmode _ | .send | .recv | .sendrecv => false
  | .freqEnc | .freqDec | .brEnc | .brDec | .bwEnc | .bwDec | .setFreq | .setBr | .setBw | .getmode => true

/-- The step from `s` to `t` of a command's straight-line code outside `SendBody` and the byte loop: the command goes
on at a position of its own there, past its start. -/
structure LineStep (i : Instr) (s t : State) : Prop extends QuietStep s t where
  seq : ModeSeq s t
  running : i.commandClass = .deviceCommand
  next : ∃ q, t.pos = some q ∧ q ≠ .start ∧ q.belongs i = true ∧ inSendBody (some q) = false
    ∧ inByteLoop (some q) = false

/-- What one block step of the command `i` is. `e` stands for the encode group of a completion. -/
inductive StepCase (i : Instr) (s t : State) : Prop where
  | fatal (c : FatalCause) (v : Word) (h : t = s.raiseFatal c v)
  | completePure (e : EncodeGroup) (hi : i.commandClass = .pureCommand) (he : e = s.enc ∨ writesEncode i = true)
      (h : t = State.completePure { s with enc := e })
  | completeDevice (e : EncodeGroup) (hi : i.commandClass = .deviceCommand) (he : e = s.enc ∨ writesEncode i = true)
      (h : t = State.completeDevice { s with enc := e })
  | noReceive (hi : i = .recv ∨ i = .sendrecv) (h : t = s.rxNoOp.completeDevice)
  | received (hi : i = .recv ∨ i = .sendrecv) (h : t = s.commitReceive.completeDevice)
  | line (h : LineStep i s t)
  | mode (m : BitVec 3) (c : ModeCall) (p : ModeStep) (hc : CallsMode i c m s) (hp : s.pos = some (.mode c p))
      (h : t = modeStep m c p s)
  | sendStart (hi : i = .send ∨ i = .sendrecv) (hp : s.pos = some .start) (hl : s.txlenNat ≤ s.params.maxPacket)
      (he : s.errLatched = false) (h : t = sendBodyStart s)
  | send (p : SendPos) (hi : i = .send ∨ i = .sendrecv) (hp : s.pos = some (.send p)) (h : t = sendStep p s)
  | recv (p : RecvPos) (hi : i = .recv ∨ i = .sendrecv) (hp : s.pos = some (.recv p)) (h : t = recvStep p s)

section

variable {i : Instr} {s : State}

theorem setWrite_line {a : RegAddr} {v : Byte} {q q' : Pos} (hp : s.pos = some q)
    (hi : i.commandClass = .deviceCommand) (hne : q' ≠ .start) (hq : q'.belongs i = true)
    (h1 : inSendBody (some q') = false) (h2 : inByteLoop (some q') = false) : LineStep i s (setWrite a v q' s) :=
  ⟨setWrite_quiet a v q' s, (rwrite_port a v s).modeSeq q', hi, q', setWrite_pos hp, hne, hq, h1, h2⟩

theorem getmodeRead_line {q : Pos} (hp : s.pos = some q) : LineStep .getmode s (getmodeRead s) := by
  refine ⟨getmodeRead_quiet s, ?_, rfl, _, getmodeRead_pos hp, nofun, rfl, rfl, rfl⟩
  rw [ModeSeq, getmodeRead, State.goto, State.keepOpmode, (rread_port _ s).seq]

theorem setmodeStart_line {m : BitVec 3} {q : Pos} (hp : s.pos = some q) :
    LineStep (.setmode m) s (modeEnter m .command s) := by
  refine ⟨modeEnter_quiet m .command s, modeEnter_modeSeq m .command s, rfl, ?_⟩
  obtain h | h := modeEnter_pos hp
  · exact ⟨_, h, nofun, rfl, rfl, rfl⟩
  · exact ⟨_, h, nofun, rfl, rfl, rfl⟩

/-- The gate of a register command (R98): gated, the completion alone. -/
theorem gate_case {body : State → State} (hi : i.commandClass = .deviceCommand)
    (h : s.errLatched = false → StepCase i s (body s)) : StepCase i s (s.gate id body) := by
  cases he : s.errLatched with
  | true => rw [gate_latched he]; exact .completeDevice s.enc hi (.inl rfl) rfl
  | false => rw [gate_clear he]; exact h he

/-- The gate of a receive (R191, R192). -/
theorem receiveGate_case {q : Pos} (hi : i = .recv ∨ i = .sendrecv) (hp : s.pos = some q) :
    StepCase i s (receiveGate s) := by
  unfold receiveGate
  cases he : s.errLatched with
  | true => rw [gate_latched he]; exact .noReceive hi rfl
  | false =>
    rw [gate_clear he]
    have hline : (Pos.mode .recvReceiver .enter).belongs i = true ∧ i.commandClass = .deviceCommand := by
      obtain rfl | rfl := hi
      · exact ⟨rfl, rfl⟩
      · exact ⟨rfl, rfl⟩
    exact .line (setWrite_line hp hline.2 nofun hline.1 rfl rfl)

/-- The start of a send (R173, R174). -/
theorem sendStart_case {gated : State → State} (hi : i = .send ∨ i = .sendrecv) (hp : s.pos = some .start)
    (hg : StepCase i s (gated s).completeDevice) : StepCase i s (sendStart gated s) := by
  unfold sendStart
  split
  · exact .fatal _ _ rfl
  case isFalse hl =>
    cases he : s.errLatched with
    | true => rw [gate_latched he]; exact hg
    | false => rw [gate_clear he]; exact .sendStart hi hp (Nat.not_lt.mp hl) he rfl

end

/-- One block step of any command is one of the cases. -/
theorem exec_cases {i : Instr} {s t : State} (h : exec i s = .next t) : StepCase i s t := by
  have pos : ∀ {w p}, s.seq.phase = .running w p → s.pos = some p := fun hq => pos_eq_some.mpr ⟨_, hq⟩
  cases i <;> simp only [exec] at h
  case nop => cases h; exact .completePure s.enc rfl (.inl rfl) rfl
  case freqEnc | freqDec | bwEnc => cases h; exact .completePure _ rfl (.inr rfl) rfl
  case brEnc =>
    simp only [execBrEnc] at h
    split at h <;> cases h
    · exact .fatal _ _ rfl
    · exact .completePure _ rfl (.inr rfl) rfl
  case brDec =>
    simp only [execBrDec] at h
    split at h <;> cases h
    · exact .fatal _ _ rfl
    · exact .completePure _ rfl (.inr rfl) rfl
  case bwDec =>
    simp only [execBwDec] at h
    split at h <;> cases h
    · exact .fatal _ _ rfl
    · exact .completePure _ rfl (.inr rfl) rfl
  case setFreq =>
    unfold execSetFreq at h
    split at h <;> cases h
    case h_1 hq => exact gate_case rfl fun _ => .line (setWrite_line (pos hq) rfl nofun rfl rfl rfl)
    case h_2 hq => exact .line (setWrite_line (pos hq) rfl nofun rfl rfl rfl)
    case h_3 hq => exact .line (setWrite_line (pos hq) rfl nofun rfl rfl rfl)
    case h_4 => exact .completeDevice _ rfl (.inr rfl) rfl
  case setBr =>
    unfold execSetBr at h
    split at h <;> cases h
    case h_1 hq =>
      split
      · exact .fatal _ _ rfl
      · exact gate_case rfl fun _ => .line (setWrite_line (pos hq) rfl nofun rfl rfl rfl)
    case h_2 hq => exact .line (setWrite_line (pos hq) rfl nofun rfl rfl rfl)
    case h_3 => exact .completeDevice _ rfl (.inr rfl) rfl
  case setBw =>
    unfold execSetBw at h
    split at h <;> cases h
    case h_1 hq => exact gate_case rfl fun _ => .line (setWrite_line (pos hq) rfl nofun rfl rfl rfl)
    case h_2 => exact .completeDevice _ rfl (.inr rfl) rfl
  case setmode m =>
    unfold execSetmode at h
    split at h
    case isTrue hm =>
      split at h <;> cases h
      case h_1 hq => exact .line (setmodeStart_line (pos hq))
      case h_2 hq => exact .mode _ _ _ (callsMode_command hm) (pos hq) rfl
      case h_3 => exact .completeDevice s.enc rfl (.inl rfl) rfl
    case isFalse => cases h; exact .fatal _ _ rfl
  case getmode =>
    unfold execGetmode at h
    split at h <;> cases h
    case h_1 hq => exact gate_case rfl fun _ => .line (getmodeRead_line (pos hq))
    case h_2 => exact .completeDevice _ rfl (.inr rfl) rfl
  case send =>
    have hi : Instr.send = .send ∨ Instr.send = .sendrecv := .inl rfl
    unfold execSend at h
    split at h <;> cases h
    case h_1 hq => exact sendStart_case hi (pos hq) (.completeDevice s.enc rfl (.inl rfl) rfl)
    case h_2 hq => exact .mode _ _ _ (callsMode_sendStandby hi) (pos hq) rfl
    case h_3 hq => exact .send _ hi (pos hq) rfl
    case h_4 hq => exact .mode _ _ _ (callsMode_sendSettle hi) (pos hq) rfl
    case h_5 => exact .completeDevice s.enc rfl (.inl rfl) rfl
  case recv =>
    have hi : Instr.recv = .recv ∨ Instr.recv = .sendrecv := .inl rfl
    unfold execRecv at h
    split at h <;> cases h
    case h_1 hq => exact receiveGate_case hi (pos hq)
    case h_2 hq => exact .mode _ _ _ (callsMode_recvReceiver hi) (pos hq) rfl
    case h_3 hq => exact .recv _ hi (pos hq) rfl
    case h_4 hq => exact .mode _ _ _ (callsMode_recvSettle hi) (pos hq) rfl
    case h_5 => exact .received hi rfl
  case sendrecv =>
    have hs : Instr.sendrecv = .send ∨ Instr.sendrecv = .sendrecv := .inr rfl
    have hr : Instr.sendrecv = .recv ∨ Instr.sendrecv = .sendrecv := .inr rfl
    unfold execSendrecv at h
    split at h <;> cases h
    case h_1 hq => exact sendStart_case hs (pos hq) (.noReceive hr rfl)
    case h_2 hq => exact .mode _ _ _ (callsMode_sendStandby hs) (pos hq) rfl
    case h_3 hq => exact .send _ hs (pos hq) rfl
    case h_4 hq => exact .mode _ _ _ (callsMode_sendSettle hs) (pos hq) rfl
    case h_5 hq => exact receiveGate_case hr (pos hq)
    case h_6 hq => exact .mode _ _ _ (callsMode_recvReceiver hr) (pos hq) rfl
    case h_7 hq => exact .recv _ hr (pos hq) rfl
    case h_8 hq => exact .mode _ _ _ (callsMode_recvSettle hr) (pos hq) rfl
    case h_9 => exact .received hr rfl

/-! ### The host side -/

/-- No block step writes what R45 and R64 keep from it. -/
theorem BlockMove.keepsHostSide {s t : State} (h : BlockMove s t) : KeepsHostSide s t := by
  cases h with
  | body b =>
    exact ⟨b.params, b.operands, b.ie, congrArg _ b.flags, fun _ => congrArg (memRead · _) b.txbuf, b.host⟩
  | fatal c v h => subst h; exact ⟨rfl, rfl, rfl, rfl, fun _ => rfl, rfl⟩
  | completePure e h => subst h; exact ⟨rfl, rfl, rfl, rfl, fun _ => rfl, rfl⟩
  | completeDevice e r h => subst h; exact ⟨rfl, rfl, rfl, rfl, fun _ => rfl, rfl⟩

theorem exec_params {i : Instr} {s t : State} (h : exec i s = .next t) : t.params = s.params := by
  obtain ⟨hparams, -⟩ := (exec_move h).keepsHostSide
  exact hparams

/-- Settles O53: none of the four moves of a block step touches the host side. -/
theorem blockStepKeepsHostSide : Obligations.BlockStepKeepsHostSide := fun _ _ _ h => (exec_move h).keepsHostSide

end Sys2Proof.Machine
end

section
/-! PROOFS. The reading steps of `SetMode`, `SendBody` and `Receive`, an equation per case: ERR latched before, the
read failed, the read answered (R67, R141, R178, R181, R186, R187). -/

namespace Sys2Proof.Machine

open Sys2Proof.Config

/-- The state after a read at `a` that failed: recorded and latched (R67, R211). -/
def State.failRead (a : RegAddr) (s : State) : State := (s.transact (.read a .fail)).latchTransport a .read

/-- The state after a read at `a` that returned `b` (R67). -/
def State.okRead (a : RegAddr) (b : Byte) (s : State) : State := s.transact (.read a (.ok b))

section

variable {s : State} {b : Byte} {m : BitVec 3} {c : ModeCall}

theorem rread_eq_okRead (he : s.errLatched = false) (ha : s.nextAnswer = .ok b) (a : RegAddr) :
    rread a s = s.okRead a b := rread_ok he ha a

theorem rread_eq_failRead (he : s.errLatched = false) (ha : s.nextAnswer = .fail) (a : RegAddr) :
    rread a s = s.failRead a := rread_fail he ha a

theorem okRead_port (a : RegAddr) (b : Byte) (s : State) : PortStep s (s.okRead a b) := transact_port s _

theorem failRead_port (a : RegAddr) (s : State) : PortStep s (s.failRead a) := latched_transact s _ a .read .fail

@[simp] theorem errLatched_okRead (a : RegAddr) : (s.okRead a b).errLatched = s.errLatched := rfl

@[simp] theorem errLatched_failRead (a : RegAddr) : (s.failRead a).errLatched = true := rfl

@[simp] theorem okRead_seq (a : RegAddr) : (s.okRead a b).seq = s.seq := rfl

/-! ### `SetMode` -/

theorem modeEnter_ok (ha : s.nextAnswer = .ok b) : modeEnter m c s
    = ((s.clearErr.okRead s.params.profile.aOpmode b).keepOpmode b).goto
      (if modeIs s.params.profile b m then modeReturn c else .mode c .write) := by
  have he : s.clearErr.errLatched = false := errLatched_clearErr s
  simp only [modeEnter, rread_eq_okRead he ha, rreadByte_ok he ha, errLatched_keepOpmode, errLatched_okRead, he,
    Bool.false_eq_true, if_false]
  split <;> rfl

theorem modeEnter_fail (ha : s.nextAnswer = .fail) : modeEnter m c s
    = ((s.clearErr.failRead s.params.profile.aOpmode).keepOpmode 0).goto (modeReturn c) := by
  have he : s.clearErr.errLatched = false := errLatched_clearErr s
  have hbyte : rreadByte s.clearErr = 0 := by simp [rreadByte, ha]
  simp only [modeEnter, rread_eq_failRead he ha, hbyte, errLatched_keepOpmode, errLatched_failRead, if_true]

theorem modePoll_latched (he : s.errLatched = true) : modePoll m c s = s.goto (modeReturn c) := by
  simp only [modePoll, rread_latched he, he, if_true]

theorem modePoll_fail (he : s.errLatched = false) (ha : s.nextAnswer = .fail) :
    modePoll m c s = (s.failRead s.params.profile.aOpmode).goto (modeReturn c) := by
  simp only [modePoll, rread_eq_failRead he ha, errLatched_failRead, if_true]

theorem modePoll_ok (he : s.errLatched = false) (ha : s.nextAnswer = .ok b) : modePoll m c s
    = (s.okRead s.params.profile.aOpmode b).goto
      (if modeIs s.params.profile b m then (if s.params.hasModeReady then .mode c .ready else modeReturn c)
        else .mode c .poll) := by
  simp only [modePoll, rread_eq_okRead he ha, rreadByte_ok he ha, errLatched_okRead, he, Bool.false_eq_true, if_false]
  split
  · split <;> rfl
  · rfl

theorem modeReady_fail (he : s.errLatched = false) (ha : s.nextAnswer = .fail) :
    modeReady c s = (s.failRead s.params.profile.aIrqFlags1).goto (modeReturn c) := by
  simp only [modeReady, rread_eq_failRead he ha, errLatched_failRead, if_true]

theorem modeReady_ok (he : s.errLatched = false) (ha : s.nextAnswer = .ok b) : modeReady c s
    = (s.okRead s.params.profile.aIrqFlags1 b).goto
      (if flagSet b s.params.profile.mModeReady then modeReturn c else .mode c .poll) := by
  simp only [modeReady, rread_eq_okRead he ha, rreadByte_ok he ha, errLatched_okRead, he, Bool.false_eq_true, if_false]
  split <;> rfl

/-! ### `SendBody` -/

theorem sendPoll_latched (he : s.errLatched = true) : sendPoll s = s.goto (.send .wait) := by
  simp only [sendPoll, rread_latched he, he, if_true]

theorem sendPoll_fail (he : s.errLatched = false) (ha : s.nextAnswer = .fail) :
    sendPoll s = (s.failRead s.params.profile.aIrqFlags2).goto (.send .wait) := by
  simp only [sendPoll, rread_eq_failRead he ha, errLatched_failRead, if_true]

theorem sendPoll_ok (he : s.errLatched = false) (ha : s.nextAnswer = .ok b) : sendPoll s
    = (s.okRead s.params.profile.aIrqFlags2 b).goto
      (if flagSet b s.params.profile.mFifoFull = false ∧ flagSet b s.params.profile.mFifoLevel = false
        then .send .refill else refillPos s) := by
  simp only [sendPoll, rread_eq_okRead he ha, rreadByte_ok he ha, errLatched_okRead, he, Bool.false_eq_true, if_false]
  split <;> rfl

theorem sendWait_latched (he : s.errLatched = true) : sendWait s = s.goto (.send .stop) := by
  simp only [sendWait, rread_latched he, he, if_true]

theorem sendWait_fail (he : s.errLatched = false) (ha : s.nextAnswer = .fail) :
    sendWait s = (s.failRead s.params.profile.aOpmode).goto (.send .stop) := by
  simp only [sendWait, rread_eq_failRead he ha, errLatched_failRead, if_true]

theorem sendWait_ok (he : s.errLatched = false) (ha : s.nextAnswer = .ok b) : sendWait s
    = (s.okRead s.params.profile.aOpmode b).goto
      (if modeIs s.params.profile b modeStandby then .send .stop else .send .wait) := by
  simp only [sendWait, rread_eq_okRead he ha, rreadByte_ok he ha, errLatched_okRead, he, Bool.false_eq_true, if_false]
  split <;> rfl

/-! ### `Receive` -/

theorem recvPoll_latched (he : s.errLatched = true) : recvPoll s = s.goto (.mode .recvSettle .enter) := by
  simp only [recvPoll, rread_latched he, he, if_true]

theorem recvPoll_fail (he : s.errLatched = false) (ha : s.nextAnswer = .fail) :
    recvPoll s = (s.failRead s.params.profile.aIrqFlags2).goto (.mode .recvSettle .enter) := by
  simp only [recvPoll, rread_eq_failRead he ha, errLatched_failRead, if_true]

theorem recvPoll_empty_of_budget (he : s.errLatched = false) (ha : s.nextAnswer = .ok b)
    (hb : flagSet b s.params.profile.mFifoEmpty = true) (hg : 0 < s.seq.budget) :
    recvPoll s = (s.okRead s.params.profile.aIrqFlags2 b).goto (.recv .sleep) := by
  simp only [recvPoll, rread_eq_okRead he ha, rreadByte_ok he ha, errLatched_okRead, okRead_seq, he, hb, hg,
    Bool.false_eq_true, if_false, if_true]

theorem recvPoll_empty_of_no_budget (he : s.errLatched = false) (ha : s.nextAnswer = .ok b)
    (hb : flagSet b s.params.profile.mFifoEmpty = true) (hg : s.seq.budget = 0) : recvPoll s
    = ((s.okRead s.params.profile.aIrqFlags2 b).setOutcome .timeout).goto (.mode .recvSettle .enter) := by
  simp only [recvPoll, rread_eq_okRead he ha, rreadByte_ok he ha, errLatched_okRead, okRead_seq, he, hb, hg,
    Bool.false_eq_true, if_false, if_true, gt_iff_lt, Nat.lt_irrefl]

theorem recvByte_latched (he : s.errLatched = true) : recvByte s = s.goto (.mode .recvSettle .enter) := by
  simp only [recvByte, rread_latched he, he, if_true]

theorem recvByte_fail (he : s.errLatched = false) (ha : s.nextAnswer = .fail) :
    recvByte s = (s.failRead s.params.profile.aFifo).goto (.mode .recvSettle .enter) := by
  simp only [recvByte, rread_eq_failRead he ha, errLatched_failRead, if_true]

end

end Sys2Proof.Machine
end

section
/-! PROOFS. The streaming send (42_packet_framing.md section 2, R177 to R180): what each step bursts, the room in the
radio's FIFO as an invariant of one step, and the bytes sent as an invariant of the streaming loop. -/

namespace Sys2Proof.Machine

open Sys2Proof.Config

/-! ### Parameters within R8, R9 and R78 -/

theorem params_bounds {p : Params} (h : p.wf = true) :
    (p.fifoDepth = 64 ∨ p.fifoDepth = 66) ∧ (1 ≤ p.maxPacket ∧ p.maxPacket ≤ 254)
      ∧ (p.maxPacket ≤ p.rxbufSize ∧ p.rxbufSize ≤ 1024) := by
  simp only [Params.wf, Bool.and_eq_true, Bool.or_eq_true, beq_iff_eq, decide_eq_true_eq] at h
  obtain ⟨⟨⟨⟨hdepth, hmax⟩, hrx⟩, -⟩, -⟩ := h
  exact ⟨hdepth, hmax, hrx⟩

/-- THRESH has 6 bits and FIFO_DEPTH is at least 64, so a refill burst always has room for a byte. -/
theorem threshNat_lt_fifoDepth {s : State} (h : s.params.wf = true) : s.threshNat < s.params.fifoDepth := by
  have hthresh : s.threshNat < 2 ^ 6 := s.operands.thresh.isLt
  obtain ⟨hdepth, -, -⟩ := params_bounds h
  omega

/-! ### The bytes a step bursts -/

/-- The record shows no new burst. -/
def SameBursts (s t : State) : Prop := burstBytes t.radio.log = burstBytes s.radio.log

theorem rread_sameBursts (a : RegAddr) (s : State) : SameBursts s (rread a s) := by
  unfold rread
  split
  · rfl
  · cases s.nextAnswer <;> rfl

theorem rwrite_sameBursts (a : RegAddr) (v : Byte) (s : State) : SameBursts s (rwrite a v s) := by
  unfold rwrite
  split
  · rfl
  · cases s.nextAnswer <;> rfl

theorem modeStep_sameBursts (m : BitVec 3) (c : ModeCall) (p : ModeStep) (s : State) :
    SameBursts s (modeStep m c p s) := by
  cases p with
  | enter =>
    have h := rread_sameBursts s.params.profile.aOpmode s.clearErr
    simp only [modeStep, modeEnter]
    split
    · exact h
    · split <;> exact h
  | write => exact rwrite_sameBursts _ _ s
  | poll =>
    have h := rread_sameBursts s.params.profile.aOpmode s
    simp only [modeStep, modePoll]
    split
    · exact h
    · split
      · split <;> exact h
      · exact h
  | ready =>
    have h := rread_sameBursts s.params.profile.aIrqFlags1 s
    simp only [modeStep, modeReady]
    split
    · exact h
    · split <;> exact h

theorem sendPoll_sameBursts (s : State) : SameBursts s (sendPoll s) := by
  have h := rread_sameBursts s.params.profile.aIrqFlags2 s
  unfold sendPoll
  dsimp only
  split
  · exact h
  · split <;> exact h

theorem sendWait_sameBursts (s : State) : SameBursts s (sendWait s) := by
  have h := rread_sameBursts s.params.profile.aOpmode s
  unfold sendWait
  dsimp only
  split
  · exact h
  · split <;> exact h

/-- A burst made a no-op by ERR sends nothing; any other counts whole, a failed one too (R69, R179). -/
theorem burstBytes_sendBurst (k : Nat) (s : State) : burstBytes (sendBurst k s).radio.log
    = burstBytes s.radio.log ++ if s.errLatched then [] else (s.seq.frame.drop s.seq.sent).take k := by
  cases he : s.errLatched with
  | true =>
    rw [sendBurst, rburst_latched he]
    exact (List.append_nil _).symm
  | false => cases ha : s.nextAnswer with
    | ok b => rw [sendBurst, rburst_ok he ha]; rfl
    | fail => rw [sendBurst, rburst_fail he ha]; rfl

theorem bytesBurst_of_same {s t : State} (h : SameBursts s t) : bytesBurst s t = 0 := by
  rw [bytesBurst, h, Nat.sub_self]

theorem bytesBurst_sendBurst_le (k : Nat) (s : State) (p : Pos) : bytesBurst s ((sendBurst k s).goto p) ≤ k := by
  rw [bytesBurst, goto_radio, burstBytes_sendBurst, List.length_append, Nat.add_sub_cancel_left]
  split
  · exact Nat.zero_le k
  · exact List.length_take_le _ _

/-! ### Where the loop goes -/

section

variable {i : Instr} {s t : State} {q : Pos}

theorem refillPos_eq (s : State) : refillPos s = if s.operands.pace = 0 then .send .poll else .send .pace := by
  have hpace : s.paceNat > 0 ↔ ¬s.operands.pace = 0 := by
    rw [gt_iff_lt, Nat.pos_iff_ne_zero]
    exact not_congr (BitVec.toNat_eq (y := 0)).symm
  simp only [refillPos, hpace, ite_not]

theorem refillPos_cases (s : State) : refillPos s = .send .poll ∨ refillPos s = .send .pace := by
  rw [refillPos_eq]
  split
  · exact .inl rfl
  · exact .inr rfl

theorem streamPos_cases (s : State) :
    (streamPos s = refillPos s ∧ s.seq.sent < s.seq.frameLen ∧ s.errLatched = false)
      ∨ (streamPos s = .send .wait ∧ (s.errLatched = false → s.seq.frameLen ≤ s.seq.sent)) := by
  unfold streamPos
  split
  case isTrue h => exact .inl ⟨rfl, h⟩
  case isFalse h => exact .inr ⟨rfl, fun he => Nat.not_lt.mp fun hlt => h ⟨hlt, he⟩⟩

theorem sendBurst_pos_goto (k : Nat) (hp : s.pos = some q) (p : Pos) : ((sendBurst k s).goto p).pos = some p :=
  pos_goto_of_running (s := sendBurst k s) ((rburst_port _ s).pos.trans hp)

/-- A step of `SendBody` is one of `sendStep`, or one of its two `SetMode`s. -/
theorem exec_sendBody (hi : i = .send ∨ i = .sendrecv) (hb : inSendBody s.pos = true) (h : exec i s = .next t) :
    (∃ p, s.pos = some (.send p) ∧ t = sendStep p s)
      ∨ ∃ m c p, s.pos = some (.mode c p) ∧ (c = .sendStandby ∨ c = .sendSettle) ∧ t = modeStep m c p s := by
  unfold inSendBody at hb
  split at hb
  case h_1 p hp => exact .inl ⟨p, hp, Host.Outcome.next.inj (h.symm.trans (exec_sendStep hi hp))⟩
  case h_2 p hp =>
    exact .inr ⟨_, _, p, hp, .inl rfl,
      Host.Outcome.next.inj (h.symm.trans ((callsMode_sendStandby hi).exec_eq hp))⟩
  case h_3 p hp =>
    exact .inr ⟨_, _, p, hp, .inr rfl, Host.Outcome.next.inj (h.symm.trans ((callsMode_sendSettle hi).exec_eq hp))⟩
  case h_4 => cases hb

/-! ### The room in the FIFO (R74, R180) -/

/-- A refill burst is next only after a poll that read FIFO_LEVEL = 0 (R178). -/
theorem level_of_sendPoll_refill (hp : s.pos = some q) (h : (sendPoll s).pos = some (.send .refill)) :
    ∃ f, s.nextAnswer = .ok f ∧ flagSet f s.params.profile.mFifoLevel = false := by
  cases he : s.errLatched with
  | true =>
    rw [sendPoll_latched he, pos_goto_of_running hp] at h
    cases h
  | false => cases ha : s.nextAnswer with
    | fail =>
      rw [sendPoll_fail he ha, (failRead_port _ s).pos_goto hp] at h
      cases h
    | ok f =>
      rw [sendPoll_ok he ha, (okRead_port _ f s).pos_goto hp] at h
      split at h
      case isTrue hf => exact ⟨f, rfl, hf.2⟩
      case isFalse =>
        obtain hr | hr := refillPos_cases s
        · rw [hr] at h; cases h
        · rw [hr] at h; cases h

/-- A step of `SendBody` that bursts at most `b` bytes, and more than THRESH leave room for only before another step
than a refill burst, keeps what is known of the FIFO. -/
theorem room_kept {c : Nat} (hparams : t.params = s.params) (hops : t.operands = s.operands)
    (hfit : c + bytesBurst s t ≤ s.params.fifoDepth)
    (hrefill : t.pos = some (.send .refill) → c + bytesBurst s t ≤ s.threshNat) :
    c + bytesBurst s t ≤ s.params.fifoDepth
      ∧ ∀ c', c' ≤ c + bytesBurst s t → (t.pos = some (.send .first) → c' = 0) → FifoRoom c' t := by
  refine ⟨hfit, fun c' hc hfirst => ⟨?_, hfirst, fun hp => ?_⟩⟩
  · rw [hparams]
    exact hc.trans hfit
  · rw [State.threshNat, hops]
    exact hc.trans (hrefill hp)

theorem streamPos_ne_refill (s : State) : streamPos s ≠ .send .refill := by
  obtain ⟨h, -⟩ | ⟨h, -⟩ := streamPos_cases s
  · obtain hr | hr := refillPos_cases s
    · rw [h, hr]; nofun
    · rw [h, hr]; nofun
  · rw [h]; nofun

/-- Only a poll leads to a refill burst. -/
theorem sendStep_pos_ne_refill {p : SendPos} (hp : s.pos = some q) (hne : p ≠ .poll) :
    (sendStep p s).pos ≠ some (.send .refill) := by
  cases p with
  | clear => rw [sendStep, (rwrite_port _ _ s).pos_goto hp]; nofun
  | arm => rw [sendStep, (rwrite_port _ _ s).pos_goto hp]; nofun
  | length => rw [sendStep, (rwrite_port _ _ s).pos_goto hp]; nofun
  | first =>
    rw [sendStep, sendFirst, sendBurst_pos_goto (s := s.setSent 0) _ hp]
    exact fun h => streamPos_ne_refill _ (Option.some.inj h)
  | pace => rw [sendStep, (sleep_port s _).pos_goto hp]; nofun
  | poll => exact absurd rfl hne
  | refill =>
    rw [sendStep, sendRefill, sendBurst_pos_goto _ hp]
    exact fun h => streamPos_ne_refill _ (Option.some.inj h)
  | wait =>
    have h := rread_port s.params.profile.aOpmode s
    simp only [sendStep, sendWait]
    split
    · rw [h.pos_goto hp]; nofun
    · split <;> rw [h.pos_goto hp] <;> nofun
  | stop => rw [sendStep, (rwrite_port _ _ s).pos_goto hp]; nofun

/-- A step with no burst. -/
theorem sendStep_sameBursts {p : SendPos} (h1 : p ≠ .first) (h2 : p ≠ .refill) (s : State) :
    SameBursts s (sendStep p s) := by
  cases p with
  | clear => exact rwrite_sameBursts _ _ s
  | arm => exact rwrite_sameBursts _ _ s
  | length => exact rwrite_sameBursts _ _ s
  | first => exact absurd rfl h1
  | pace => rfl
  | poll => exact sendPoll_sameBursts s
  | refill => exact absurd rfl h2
  | wait => exact sendWait_sameBursts s
  | stop => exact rwrite_sameBursts _ _ s

end

/-- Settles O34: a first burst goes to an empty FIFO and is at most its depth; a refill burst follows a poll that read
FIFO_LEVEL = 0, so at most THRESH bytes are there and the burst takes at most the rest; no other step bursts. -/
theorem sendNeverOverrunsFifo : Obligations.SendNeverOverrunsFifo := by
  rintro s t i c hi hwf hbody ⟨hdepth, hfirst, hrefill⟩ hlevel hstep
  have hparams := exec_params hstep
  have hops := (exec_move hstep).operands
  obtain ⟨p, hp, rfl⟩ | ⟨m, call, p, hp, hcall, rfl⟩ := exec_sendBody hi hbody hstep
  · by_cases hf : p = .first
    · subst hf
      have hk := bytesBurst_sendBurst_le (min s.seq.frameLen s.params.fifoDepth) (s.setSent 0)
        (streamPos (sendBurst (min s.seq.frameLen s.params.fifoDepth) (s.setSent 0)))
      have hfit : c + bytesBurst s (sendStep .first s) ≤ s.params.fifoDepth := by
        rw [hfirst hp, Nat.zero_add]
        exact hk.trans (Nat.min_le_right _ _)
      exact room_kept hparams hops hfit fun h => absurd h (sendStep_pos_ne_refill hp nofun)
    by_cases hr : p = .refill
    · subst hr
      have hk := bytesBurst_sendBurst_le (min (s.seq.frameLen - s.seq.sent) (s.params.fifoDepth - s.threshNat)) s
        (streamPos (sendBurst (min (s.seq.frameLen - s.seq.sent) (s.params.fifoDepth - s.threshNat)) s))
      have hfit : c + bytesBurst s (sendStep .refill s) ≤ s.params.fifoDepth := by
        have hc := hrefill hp
        have hthresh := threshNat_lt_fifoDepth hwf
        have hburst : bytesBurst s (sendStep .refill s) ≤ s.params.fifoDepth - s.threshNat :=
          hk.trans (Nat.min_le_right _ _)
        omega
      exact room_kept hparams hops hfit fun h => absurd h (sendStep_pos_ne_refill hp nofun)
    have hzero := bytesBurst_of_same (sendStep_sameBursts hf hr s)
    refine room_kept hparams hops ?_ ?_
    · rw [hzero]
      exact hdepth
    · rw [hzero]
      intro hnext
      by_cases hpoll : p = .poll
      · subst hpoll
        obtain ⟨f, ha, hflag⟩ := level_of_sendPoll_refill hp hnext
        have htrue := hlevel hp f ha
        rw [hflag, eq_comm, decide_eq_false_iff_not] at htrue
        exact Nat.not_lt.mp htrue
      · exact absurd hnext (sendStep_pos_ne_refill hp hpoll)
  · have hzero := bytesBurst_of_same (modeStep_sameBursts m call p s)
    refine room_kept hparams hops ?_ ?_
    · rw [hzero]
      exact hdepth
    · intro hnext
      obtain h | ⟨r, h⟩ := modeStep_pos (m := m) (c := call) p hp
      · rw [h] at hnext
        obtain rfl | rfl := hcall
        · cases hnext
        · cases hnext
      · rw [h] at hnext
        cases hnext

/-! ### The stream of bursts (R177, R179) -/

/-- What a step-closed property holds of, it holds of after any number of steps. -/
theorem execN_induction {i : Instr} {P : State → Prop} (hstep : ∀ u v, P u → exec i u = .next v → P v) {n : Nat}
    {s t : State} (h0 : P s) (h : execN i n s = .next t) : P t := by
  induction n generalizing s with
  | zero =>
    simp only [execN] at h
    cases h
    exact h0
  | succ n ih =>
    simp only [execN] at h
    cases hx : exec i s with
    | next u => rw [hx] at h; exact ih (hstep s u h0 hx) h
    | fault u => rw [hx] at h; cases h
    | refused u => rw [hx] at h; cases h

/-- The positions from the first burst to the stop of the sequencer. -/
def InStream (o : Option Pos) : Prop := inRefill o = true ∨ o = some (.send .wait) ∨ o = some (.send .stop)

/-- The streaming part of a send that began its first burst in `s` has come to `t`: the bursts so far are the first
`sent` bytes of the frame; ERR is 0 in the refill loop; the completion wait with ERR = 0 finds all of it sent. -/
structure Streaming (s t : State) : Prop where
  pos : InStream t.pos
  frame : t.seq.frame = s.seq.frame
  frameLen : t.seq.frameLen = s.seq.frameLen
  bursts : burstBytes t.radio.log = burstBytes s.radio.log ++ s.seq.frame.take t.seq.sent
  clear : inRefill t.pos = true → t.errLatched = false
  all : t.pos = some (.send .wait) → t.errLatched = false → s.seq.frameLen ≤ t.seq.sent

/-- The positions after the stop of the sequencer: no burst is made from them. -/
def afterStream : Option Pos → Bool
  | none => true
  | some .start | some .write2 | some .write3 => false
  | some (.send _) => false
  | some (.mode .command _) | some (.mode .sendStandby _) => false
  | some (.mode .sendSettle _) | some (.mode .recvReceiver _) | some (.mode .recvSettle _) => true
  | some .sent | some (.recv _) | some .finish => true

theorem afterStream_of_belongs {i : Instr} {q : Pos} (hi : i = .send ∨ i = .sendrecv) (hstart : q ≠ .start)
    (hq : q.belongs i = true) (hbody : inSendBody (some q) = false) : afterStream (some q) = true := by
  cases q with
  | start => exact absurd rfl hstart
  | write2 | write3 => obtain rfl | rfl := hi <;> cases hq
  | send p => cases hbody
  | mode c p =>
    cases c with
    | command => obtain rfl | rfl := hi <;> cases hq
    | sendStandby => cases hbody
    | sendSettle | recvReceiver | recvSettle => rfl
  | sent | recv p | finish => rfl

/-- A `SetMode` after the stream returns to a position after it. -/
theorem afterStream_mode {c : ModeCall} {p : ModeStep} (h : afterStream (some (.mode c p)) = true) :
    afterStream (some (modeReturn c)) = true ∧ ∀ r, afterStream (some (.mode c r)) = true := by
  cases c with
  | command | sendStandby => cases h
  | sendSettle | recvReceiver | recvSettle => exact ⟨rfl, fun _ => rfl⟩

theorem afterStream_of_inStream {o : Option Pos} (h : InStream o) : afterStream o = false := by
  obtain h | rfl | rfl := h
  · unfold inRefill at h
    split at h
    case h_4 => cases h
    all_goals rfl
  · rfl
  · rfl

/-- A send does not come back to its stream. -/
theorem afterStream_step {i : Instr} {s t : State} (hi : i = .send ∨ i = .sendrecv) (hp : afterStream s.pos = true)
    (h : exec i s = .next t) : afterStream t.pos = true := by
  have idle : ∀ u : State, u.seq.phase = .idle → afterStream u.pos = true := fun u hu => by
    rw [pos_eq_none.mpr hu]
    rfl
  cases exec_cases h with
  | fatal c v h => exact idle t (by rw [h]; rfl)
  | completePure e _ _ h => exact idle t (by rw [h]; rfl)
  | completeDevice e _ _ h => exact idle t (by rw [h]; rfl)
  | noReceive _ h => exact idle t (by rw [h]; rfl)
  | received _ h => exact idle t (by rw [h]; rfl)
  | line h =>
    obtain ⟨q, hq, hstart, hbelongs, hbody, -⟩ := h.next
    rw [hq]
    exact afterStream_of_belongs hi hstart hbelongs hbody
  | mode m c p _ hq h =>
    rw [hq] at hp
    subst h
    obtain ⟨hreturn, hcall⟩ := afterStream_mode hp
    obtain h | ⟨r, h⟩ := modeStep_pos (m := m) (c := c) p hq
    · rw [h]
      exact hreturn
    · rw [h]
      exact hcall r
  | sendStart _ hq => rw [hq] at hp; cases hp
  | send p _ hq => rw [hq] at hp; cases hp
  | recv p _ hq h =>
    subst h
    obtain ⟨r, h⟩ | h | h := recvStep_pos p hq
    · rw [h]; rfl
    · rw [h]; rfl
    · rw [h]; rfl

section

variable {i : Instr} {s u v : State} {p q : Pos}

theorem inRefill_refillPos (s : State) : inRefill (some (refillPos s)) = true := by
  obtain h | h := refillPos_cases s
  · rw [h]; rfl
  · rw [h]; rfl

/-- A burst of the next `k` bytes of the frame, with ERR = 0, keeps the stream in order. -/
theorem streaming_sendBurst {k : Nat} (hp : u.pos = some p) (hframe : u.seq.frame = s.seq.frame)
    (hlen : u.seq.frameLen = s.seq.frameLen)
    (hbursts : burstBytes u.radio.log = burstBytes s.radio.log ++ s.seq.frame.take u.seq.sent)
    (he : u.errLatched = false) : Streaming s ((sendBurst k u).goto (streamPos (sendBurst k u))) := by
  have hport := rburst_port ((u.seq.frame.drop u.seq.sent).take k) u
  have hlen' : (sendBurst k u).seq.frameLen = s.seq.frameLen := hport.seq_frameLen.trans hlen
  have hbursts' : burstBytes (sendBurst k u).radio.log
      = burstBytes s.radio.log ++ s.seq.frame.take (sendBurst k u).seq.sent := by
    rw [burstBytes_sendBurst, he, hbursts, hframe, List.append_assoc]
    exact congrArg _ List.take_add.symm
  have hnext := sendBurst_pos_goto k hp (streamPos (sendBurst k u))
  obtain ⟨hq, -, hclear⟩ | ⟨hq, hall⟩ := streamPos_cases (sendBurst k u)
  · rw [hq] at hnext ⊢
    have hloop := inRefill_refillPos (sendBurst k u)
    refine ⟨?_, hport.seq_frame.trans hframe, hlen', hbursts', fun _ => hclear, fun hwait _ => ?_⟩
    · rw [hnext]
      exact .inl hloop
    · rw [hnext] at hwait
      rw [hwait] at hloop
      cases hloop
  · rw [hq] at hnext ⊢
    refine ⟨?_, hport.seq_frame.trans hframe, hlen', hbursts', fun hloop => ?_, fun _ he' => hlen' ▸ hall he'⟩
    · rw [hnext]
      exact .inr (.inl rfl)
    · rw [hnext] at hloop
      cases hloop

/-- A step with no burst keeps the stream, at the position it goes to. -/
theorem Streaming.of_port (h : Streaming s u) (hp : u.pos = some p) (hport : PortStep u v) (hb : SameBursts u v)
    (hq : InStream (some q)) (hclear : inRefill (some q) = true → v.errLatched = false)
    (hall : q = .send .wait → v.errLatched = false → s.seq.frameLen ≤ u.seq.sent) : Streaming s (v.goto q) := by
  have hnext : (v.goto q).pos = some q := hport.pos_goto hp
  refine ⟨?_, hport.seq_frame.trans h.frame, hport.seq_frameLen.trans h.frameLen, ?_, ?_, ?_⟩
  · rw [hnext]
    exact hq
  · rw [goto_radio, goto_seq_sent, hport.seq_sent, hb, h.bursts]
  · rw [hnext]
    exact hclear
  · rw [hnext, goto_seq_sent, hport.seq_sent]
    exact fun hw => hall (Option.some.inj hw)

theorem Streaming.sendPoll (h : Streaming s u) (hp : u.pos = some (.send .poll)) : Streaming s (sendPoll u) := by
  have he : u.errLatched = false := h.clear (by rw [hp]; rfl)
  cases ha : u.nextAnswer with
  | fail =>
    rw [sendPoll_fail he ha]
    exact h.of_port hp (failRead_port _ u) rfl (.inr (.inl rfl)) nofun nofun
  | ok f =>
    rw [sendPoll_ok he ha]
    split
    · exact h.of_port hp (okRead_port _ f u) rfl (.inl rfl) (fun _ => he) nofun
    · refine h.of_port hp (okRead_port _ f u) rfl (.inl (inRefill_refillPos u)) (fun _ => he) fun hw => ?_
      have hloop := inRefill_refillPos u
      rw [hw] at hloop
      cases hloop

theorem Streaming.sendWait (h : Streaming s u) (hp : u.pos = some (.send .wait)) : Streaming s (sendWait u) := by
  have hstop : InStream (some (.send .stop)) := .inr (.inr rfl)
  cases he : u.errLatched with
  | true =>
    rw [sendWait_latched he]
    exact h.of_port hp (.refl u) rfl hstop nofun nofun
  | false => cases ha : u.nextAnswer with
    | fail =>
      rw [sendWait_fail he ha]
      exact h.of_port hp (failRead_port _ u) rfl hstop nofun nofun
    | ok b =>
      rw [sendWait_ok he ha]
      split
      · exact h.of_port hp (okRead_port _ b u) rfl hstop nofun nofun
      · exact h.of_port hp (okRead_port _ b u) rfl (.inr (.inl rfl)) nofun fun _ _ => h.all hp he

/-- A step from the stream keeps it, or leaves it by the stop of the sequencer. -/
theorem Streaming.step (hi : i = .send ∨ i = .sendrecv) (h : Streaming s u) (hstep : exec i u = .next v) :
    Streaming s v ∨ afterStream v.pos = true := by
  have hv : ∀ {p}, u.pos = some (.send p) → v = sendStep p u := fun hp =>
    Host.Outcome.next.inj (hstep.symm.trans (exec_sendStep hi hp))
  obtain hloop | hp | hp := h.pos
  · have he := h.clear hloop
    unfold inRefill at hloop
    split at hloop
    case h_1 hp =>
      rw [hv hp]
      exact .inl (h.of_port hp (sleep_port u _) rfl (.inl rfl) (fun _ => he) nofun)
    case h_2 hp =>
      rw [hv hp]
      exact .inl (h.sendPoll hp)
    case h_3 hp =>
      rw [hv hp]
      exact .inl (streaming_sendBurst hp h.frame h.frameLen h.bursts he)
    case h_4 => cases hloop
  · rw [hv hp]
    exact .inl (h.sendWait hp)
  · rw [hv hp, sendStep, (rwrite_port _ _ u).pos_goto hp]
    exact .inr rfl

/-- The first burst begins the stream. -/
theorem streaming_first (hi : i = .send ∨ i = .sendrecv) (hp : s.pos = some (.send .first)) (he : s.errLatched = false)
    (hstep : exec i s = .next v) : Streaming s v := by
  rw [exec_sendStep hi hp] at hstep
  cases hstep
  exact streaming_sendBurst (u := s.setSent 0) hp rfl rfl (List.append_nil _).symm he

/-- Settles O32: from the first burst on, each step keeps the stream in order or is past it; at the completion wait
with ERR = 0 all of the frame is sent. -/
theorem sendStreamsFrameInOrder : Obligations.SendStreamsFrameInOrder := by
  intro n s t i hi hp he hlen hrun hpos
  have hinv : t = s ∨ Streaming s t ∨ afterStream t.pos = true := by
    refine execN_induction (P := fun u => u = s ∨ Streaming s u ∨ afterStream u.pos = true) ?_ (.inl rfl) hrun
    rintro u v (rfl | hu | hu) hstep
    · exact .inr (.inl (streaming_first hi hp he hstep))
    · exact .inr (hu.step hi hstep)
    · exact .inr (.inr (afterStream_step hi hu hstep))
  obtain rfl | h | h := hinv
  · rw [hp] at hpos
    obtain h | h | h := hpos
    · cases h
    · cases h
    · cases h
  · refine ⟨h.frame, h.bursts, fun hw hclear => ?_⟩
    rw [h.bursts, List.take_of_length_le]
    exact hlen.trans_le (h.all hw hclear)
  · rw [afterStream_of_inStream hpos] at h
    cases h

/-! ### The loop step by step (R177 to R179) -/

section

variable {k : Nat} {b : Byte}

theorem sendBurst_ok (he : s.errLatched = false) (ha : s.nextAnswer = .ok b) : sendBurst k s
    = (s.transact (.burst s.params.profile.aFifo ((s.seq.frame.drop s.seq.sent).take k) (.ok b))).setSent
      (s.seq.sent + k) := by
  rw [sendBurst, rburst_ok he ha]

theorem sendBurst_fail (he : s.errLatched = false) (ha : s.nextAnswer = .fail) : sendBurst k s
    = ((s.transact (.burst s.params.profile.aFifo ((s.seq.frame.drop s.seq.sent).take k) .fail)).latchTransport
      s.params.profile.aFifo .burst).setSent (s.seq.sent + k) := by
  rw [sendBurst, rburst_fail he ha]

/-- Where the loop goes after a burst: on while bytes are left and ERR = 0, else to the completion wait. -/
theorem streamPos_clear (he : s.errLatched = false) : streamPos s
    = if s.seq.sent < s.seq.frameLen then (if s.operands.pace = 0 then .send .poll else .send .pace) else .send .wait := by
  simp only [streamPos, he, and_true, refillPos_eq]

theorem streamPos_latched (he : s.errLatched = true) : streamPos s = .send .wait := by
  simp only [streamPos, he, Bool.true_eq_false, and_false, if_false]

/-- A burst of `k` bytes in the loop, whatever its answer. -/
theorem sendBurst_step (hp : s.pos = some p) (he : s.errLatched = false)
    (ht : v = (sendBurst k s).goto (streamPos (sendBurst k s))) :
    v.radio.log = .burst s.params.profile.aFifo ((s.seq.frame.drop s.seq.sent).take k) s.nextAnswer :: s.radio.log
      ∧ v.seq.sent = s.seq.sent + k ∧ v.seq.frame = s.seq.frame ∧ v.seq.frameLen = s.seq.frameLen
      ∧ (∀ b, s.nextAnswer = .ok b → v.err = s.err ∧ v.pos = some (if s.seq.sent + k < s.seq.frameLen
          then (if s.operands.pace = 0 then .send .poll else .send .pace) else .send .wait))
      ∧ (s.nextAnswer = .fail → LatchedAt .burst s.params.profile.aFifo v ∧ v.seq.xerr = true
          ∧ v.pos = some (.send .wait)) := by
  have hnext : v.pos = some (streamPos (sendBurst k s)) := by
    rw [ht]
    exact sendBurst_pos_goto k hp _
  subst ht
  rw [hnext]
  cases ha : s.nextAnswer with
  | ok b =>
    rw [sendBurst_ok he ha]
    exact ⟨rfl, rfl, rfl, rfl, fun _ _ => ⟨rfl, congrArg some (streamPos_clear (s := (s.transact _).setSent _) he)⟩,
      nofun⟩
  | fail =>
    rw [sendBurst_fail he ha]
    exact ⟨rfl, rfl, rfl, rfl, nofun, fun _ => ⟨⟨rfl, rfl, rfl⟩, rfl, congrArg _ (streamPos_latched rfl)⟩⟩

end

/-- Settles O33: the two bursts as one burst of the next bytes, the poll by its two flags, and the pause before it. -/
theorem sendRefillPacing : Obligations.SendRefillPacing := by
  refine fun s i hi hwf he => ⟨?_, fun f hp ha => ?_, fun hp => ?_, ?_⟩
  · rintro k hp rfl
    obtain ⟨hlog, hsent, hrest⟩ := sendBurst_step (s := s.setSent 0) (k := min s.seq.frameLen s.params.fifoDepth) hp he rfl
    rw [setSent_seq_sent, Nat.zero_add] at hsent hrest
    exact ⟨_, exec_sendStep hi hp, hlog, hsent, hrest⟩
  · refine ⟨_, (exec_sendStep hi hp).trans (congrArg _ (sendPoll_ok he ha)), rfl, rfl, ?_⟩
    rw [(okRead_port _ f s).pos_goto hp, refillPos_eq]
  · exact ⟨_, exec_sendStep hi hp, rfl, rfl, (sleep_port s _).pos_goto hp⟩
  · rintro k hp hleft rfl
    have hroom : s.operands.thresh.toNat < s.params.fifoDepth := threshNat_lt_fifoDepth hwf
    exact ⟨by omega, _, exec_sendStep hi hp, sendBurst_step hp he rfl⟩

end

end Sys2Proof.Machine
end

section
/-! PROOFS. A block step of any command (20_memory.md section 2, 30_encoding.md section 2, 60_exceptions.md sections 2
and 3): it answers at each position of the command, what it writes and what it may not, and how the machine's step
comes to it. -/

namespace Sys2Proof.Machine

open Sys2Proof.Config

/-! ### The block's turn (R7, R93, R242) -/

section

variable {s : State}

theorem step_block (hw : s.params.wf = true) (hh : s.hostTurn = none) : step s = blockStep s.tick := by
  simp only [step, hw, hh, if_true]

theorem fetch_tick_of_running {w : Word} {p : Pos} (hp : s.seq.phase = .running w p) : s.tick.fetch = some w :=
  fetch_eq_some.mpr ⟨p, hp⟩

theorem fetch_tick_of_idle (hp : s.seq.phase = .idle) : s.tick.fetch = none := by
  simp only [State.fetch, tick_seq, hp]

/-- Settles O5: the decode error is the whole of the block's turn. -/
theorem illegalWordRaisesFatal : Obligations.IllegalWordRaisesFatal := by
  intro s w e hw hh hp hd
  refine ⟨s.tick.raiseFatal .illegal w, ?_, raisedFatal_raiseFatal ..⟩
  rw [step_block hw hh]
  simp only [blockStep, fetch_tick_of_running hp, hd]

/-- Settles O6: the block's turn runs the command whose word stands in phase. -/
theorem stepRunsDecodedCommand : Obligations.StepRunsDecodedCommand := by
  intro s w p i hw hh hp hd
  refine ⟨?_, rfl, tick_host_reads s⟩
  rw [step_block hw hh]
  simp only [blockStep, fetch_tick_of_running hp, hd]

theorem tick_of_queue_nil (hq : s.host.queue = []) : s.tick = s := by
  have hqueue : tickQueue s.host.queue = s.host.queue := by rw [hq]; rfl
  rw [State.tick, hqueue]

/-- Settles O7: an idle block's turn is the tick of the host's queue alone. -/
theorem idleBlockRunsNothing : Obligations.IdleBlockRunsNothing := by
  intro s hw hh hp
  refine ⟨s.tick, ?_, rfl, tick_host_reads s, tick_of_queue_nil⟩
  rw [step_block hw hh]
  simp only [blockStep, fetch_tick_of_idle hp]

end

/-! ### Every position of a command answers -/

section

variable {i : Instr} {s : State}

theorem exec_setmode_start {m : BitVec 3} (hm : m.toNat ≤ 5) (hp : s.pos = some .start) :
    exec (.setmode m) s = .next (modeEnter m .command s) := by
  obtain ⟨w, hw⟩ := pos_eq_some.mp hp
  simp only [exec, execSetmode, hm, hw, if_true]

theorem exec_setmode_finish {m : BitVec 3} (hm : m.toNat ≤ 5) (hp : s.pos = some .finish) :
    exec (.setmode m) s = .next s.completeDevice := by
  obtain ⟨w, hw⟩ := pos_eq_some.mp hp
  simp only [exec, execSetmode, hm, hw, if_true]

theorem exec_send_sent (hp : s.pos = some .sent) : exec .send s = .next s.completeDevice := by
  obtain ⟨w, hw⟩ := pos_eq_some.mp hp
  simp only [exec, execSend, hw]

theorem exec_sendrecv_sent (hp : s.pos = some .sent) : exec .sendrecv s = .next (receiveGate s) := by
  obtain ⟨w, hw⟩ := pos_eq_some.mp hp
  simp only [exec, execSendrecv, hw]

theorem send_of_belongs {p : SendPos} (h : (Pos.send p).belongs i = true) : i = .send ∨ i = .sendrecv := by
  cases i with
  | send => exact .inl rfl
  | sendrecv => exact .inr rfl
  | _ => cases h

theorem recv_of_belongs {p : RecvPos} (h : (Pos.recv p).belongs i = true) : i = .recv ∨ i = .sendrecv := by
  cases i with
  | recv => exact .inl rfl
  | sendrecv => exact .inr rfl
  | _ => cases h

theorem sent_of_belongs (h : Pos.sent.belongs i = true) : i = .send ∨ i = .sendrecv := by
  cases i with
  | send => exact .inl rfl
  | sendrecv => exact .inr rfl
  | _ => cases h

/-- The command at a position of a `SetMode` makes that call. -/
theorem callsMode_of_belongs {c : ModeCall} {p : ModeStep} (hwf : WellFormed i) (h : (Pos.mode c p).belongs i = true) :
    ∃ m, CallsMode i c m s := by
  cases c with
  | command =>
    cases i with
    | setmode m => exact ⟨m, callsMode_command (of_decide_eq_true hwf)⟩
    | _ => cases h
  | sendStandby =>
    cases i with
    | send => exact ⟨_, callsMode_sendStandby (.inl rfl)⟩
    | sendrecv => exact ⟨_, callsMode_sendStandby (.inr rfl)⟩
    | _ => cases h
  | sendSettle =>
    cases i with
    | send => exact ⟨_, callsMode_sendSettle (.inl rfl)⟩
    | sendrecv => exact ⟨_, callsMode_sendSettle (.inr rfl)⟩
    | _ => cases h
  | recvReceiver =>
    cases i with
    | recv => exact ⟨_, callsMode_recvReceiver (.inl rfl)⟩
    | sendrecv => exact ⟨_, callsMode_recvReceiver (.inr rfl)⟩
    | _ => cases h
  | recvSettle =>
    cases i with
    | recv => exact ⟨_, callsMode_recvSettle (.inl rfl)⟩
    | sendrecv => exact ⟨_, callsMode_recvSettle (.inr rfl)⟩
    | _ => cases h

theorem exec_start_next (hwf : WellFormed i) (hp : s.pos = some .start) : ∃ t, exec i s = .next t := by
  cases i with
  | setFreq => exact ⟨_, exec_setFreq_start hp⟩
  | setBr => exact ⟨_, exec_setBr_start hp⟩
  | setBw => exact ⟨_, exec_setBw_start hp⟩
  | setmode m => exact ⟨_, exec_setmode_start (of_decide_eq_true hwf) hp⟩
  | getmode => exact ⟨_, exec_getmode_start hp⟩
  | send => exact ⟨_, exec_send_start hp⟩
  | recv => exact ⟨_, exec_recv_start hp⟩
  | sendrecv => exact ⟨_, exec_sendrecv_start hp⟩
  | _ => exact ⟨_, rfl⟩

theorem exec_finish_next (hwf : WellFormed i) (hp : s.pos = some .finish) (h : Pos.finish.belongs i = true) :
    ∃ t, exec i s = .next t := by
  cases i with
  | setFreq => exact ⟨_, exec_setFreq_finish hp⟩
  | setBr => exact ⟨_, exec_setBr_finish hp⟩
  | setBw => exact ⟨_, exec_setBw_finish hp⟩
  | setmode m => exact ⟨_, exec_setmode_finish (of_decide_eq_true hwf) hp⟩
  | getmode => exact ⟨_, exec_getmode_finish hp⟩
  | recv => exact ⟨_, exec_receive_finish (.inl rfl) hp⟩
  | sendrecv => exact ⟨_, exec_receive_finish (.inr rfl) hp⟩
  | _ => cases h

/-- A well-formed command goes on from each position of it. -/
theorem exec_next {p : Pos} (hwf : WellFormed i) (hp : s.pos = some p) (h : p.belongs i = true) :
    ∃ t, exec i s = .next t := by
  cases p with
  | start => exact exec_start_next hwf hp
  | write2 =>
    cases i with
    | setFreq => exact ⟨_, exec_setFreq_write2 hp⟩
    | setBr => exact ⟨_, exec_setBr_write2 hp⟩
    | _ => cases h
  | write3 =>
    cases i with
    | setFreq => exact ⟨_, exec_setFreq_write3 hp⟩
    | _ => cases h
  | mode c q =>
    obtain ⟨m, hc⟩ := callsMode_of_belongs (s := s) hwf h
    exact ⟨_, hc.exec_eq hp⟩
  | send q => exact ⟨_, exec_sendStep (send_of_belongs h) hp⟩
  | sent =>
    obtain rfl | rfl := sent_of_belongs h
    · exact ⟨_, exec_send_sent hp⟩
    · exact ⟨_, exec_sendrecv_sent hp⟩
  | recv q => exact ⟨_, exec_recvStep (recv_of_belongs h) hp⟩
  | finish => exact exec_finish_next hwf hp h

end

/-! ### Who writes what (R65, R99, R100) -/

section

variable {i : Instr} {s t : State}

theorem device_of_send (hi : i = .send ∨ i = .sendrecv) : i.commandClass = .deviceCommand := by
  obtain rfl | rfl := hi
  · rfl
  · rfl

theorem device_of_receive (hi : i = .recv ∨ i = .sendrecv) : i.commandClass = .deviceCommand := by
  obtain rfl | rfl := hi
  · rfl
  · rfl

theorem CallsMode.device {c : ModeCall} {m : BitVec 3} (h : CallsMode i c m s) : i.commandClass = .deviceCommand := by
  cases c with
  | command => obtain ⟨rfl, -⟩ := h; rfl
  | sendStandby | sendSettle => obtain ⟨hi, -⟩ := h; exact device_of_send hi
  | recvReceiver | recvSettle => obtain ⟨hi, -⟩ := h; exact device_of_receive hi

/-- The encode group changes only in a completion of a command that writes it. -/
theorem StepCase.enc (h : StepCase i s t) (hi : writesEncode i = false) : t.enc = s.enc := by
  have heq : ∀ {e : EncodeGroup}, e = s.enc ∨ writesEncode i = true → e = s.enc := fun he =>
    he.resolve_right (by rw [hi]; nofun)
  cases h with
  | fatal c v h => rw [h, raiseFatal_enc]
  | completePure e _ he h => rw [h]; exact heq he
  | completeDevice e _ he h => rw [h]; exact heq he
  | noReceive _ h => rw [h]; rfl
  | received _ h => rw [h]; rfl
  | line h => exact h.enc
  | mode m c p _ _ h => rw [h]; exact (modeStep_quiet m c p s).enc
  | sendStart _ _ _ _ h => rw [h]; exact (sendBodyStart_quiet s).enc
  | send p _ _ h => rw [h]; exact (sendStep_quiet p s).enc
  | recv p _ _ h => rw [h]; exact (recvStep_body p s).enc

/-- RXBUF and GLITCHCNT change only in a step of `Receive`, the receive group only when a receive ends. -/
theorem StepCase.receiveSide (h : StepCase i s t) :
    (t.rxbuf = s.rxbuf ∧ t.glitchCnt = s.glitchCnt ∧ (t.rx = s.rx ∨ i = .recv ∨ i = .sendrecv))
      ∨ ∃ p, (i = .recv ∨ i = .sendrecv) ∧ s.pos = some (.recv p) ∧ t = recvStep p s := by
  have quiet : ∀ {u}, QuietStep s u →
      u.rxbuf = s.rxbuf ∧ u.glitchCnt = s.glitchCnt ∧ (u.rx = s.rx ∨ i = .recv ∨ i = .sendrecv) :=
    fun hq => ⟨hq.rxbuf, hq.glitchCnt, .inl hq.rx⟩
  cases h with
  | fatal c v h => rw [h]; exact .inl ⟨rfl, rfl, .inl rfl⟩
  | completePure e _ _ h => rw [h]; exact .inl ⟨rfl, rfl, .inl rfl⟩
  | completeDevice e _ _ h => rw [h]; exact .inl ⟨rfl, rfl, .inl rfl⟩
  | noReceive hi h => rw [h]; exact .inl ⟨rfl, rfl, .inr hi⟩
  | received hi h => rw [h]; exact .inl ⟨rfl, rfl, .inr hi⟩
  | line h => exact .inl (quiet h.toQuietStep)
  | mode m c p _ _ h => rw [h]; exact .inl (quiet (modeStep_quiet m c p s))
  | sendStart _ _ _ _ h => rw [h]; exact .inl (quiet (sendBodyStart_quiet s))
  | send p _ _ h => rw [h]; exact .inl (quiet (sendStep_quiet p s))
  | recv p hi hp h => exact .inr ⟨p, hi, hp, h⟩

/-- A pure command makes no transaction and writes neither XERR nor ERR (R91, R98). -/
theorem StepCase.pure (h : StepCase i s t) (hi : i.commandClass = .pureCommand) :
    t.flags.xerr = s.flags.xerr ∧ t.radio = s.radio ∧ t.err = s.err := by
  have absurd' : ∀ {P : Prop}, i.commandClass = .deviceCommand → P := fun hd => by
    rw [hi] at hd
    cases hd
  cases h with
  | fatal c v h => rw [h]; exact ⟨rfl, rfl, rfl⟩
  | completePure e _ _ h => rw [h]; exact ⟨rfl, rfl, rfl⟩
  | completeDevice e hd _ _ => exact absurd' hd
  | noReceive hr _ => exact absurd' (device_of_receive hr)
  | received hr _ => exact absurd' (device_of_receive hr)
  | line h => exact absurd' h.running
  | mode m c p hc _ _ => exact absurd' hc.device
  | sendStart hs _ _ _ _ => exact absurd' (device_of_send hs)
  | send p hs _ _ => exact absurd' (device_of_send hs)
  | recv p hr _ _ => exact absurd' (device_of_receive hr)

end

/-- Settles O54: by command from the cases of a step, by step from what a running step keeps, from the receive side's
one writer and from the latch. -/
theorem groupsHaveTheirWriters : Obligations.GroupsHaveTheirWriters := by
  intro i s t h
  have hcase := exec_cases h
  have hrx := exec_rxMoves h
  refine ⟨fun hi => hcase.enc ?_, fun hr hs => ?_, hcase.pure, fun hrun => ?_, hrx.glitch, hrx.bytes, exec_err h⟩
  · obtain rfl | ⟨m, rfl⟩ | rfl | rfl | rfl := hi <;> rfl
  · have hno : ¬(i = .recv ∨ i = .sendrecv) := fun hi => hi.elim hr hs
    obtain ⟨hbuf, hcnt, hgroup⟩ | ⟨p, hi, -⟩ := hcase.receiveSide
    · exact ⟨hgroup.resolve_right hno, hcnt, fun a => by rw [hbuf]⟩
    · exact absurd hi hno
  · have b := exec_running h hrun
    exact ⟨b.enc, b.rx, b.flags, b.fatal⟩

/-- Settles O55: of the four moves of a block step only the fatal fault touches FATAL, FCAUSE and FINFO. -/
theorem fatalFaultIsPrecise : Obligations.FatalFaultIsPrecise := by
  intro i s t h
  cases exec_move h with
  | body b => exact .inl b.fatal
  | fatal c v h =>
    subst h
    refine .inr ⟨c, v, raisedFatal_raiseFatal c v s, rfl, ?_, ?_, ?_, ?_⟩
    all_goals rintro rfl; rfl
  | completePure e h => rw [h]; exact .inl rfl
  | completeDevice e r h => rw [h]; exact .inl rfl

/-! ### ERR and ERRADDR as a host reads them (R25, R26, R211) -/

/-- KIND of ERRADDR as a number, 0 for no error since reset. -/
def kindNat : Option TxnKind → Nat
  | none => 0
  | some .read => 1
  | some .write => 2
  | some .burst => 3
  | some .await => 4

/-- ADDR in bits 6:0, KIND in bits 10:8. -/
theorem errAddrWord_toNat (s : State) : s.errAddrWord.toNat = s.err.addr.toNat + 256 * kindNat s.err.kind := by
  have haddr : s.err.addr.toNat < 2 ^ 7 := s.err.addr.isLt
  have hword : ∀ k : BitVec 3, ((0 : BitVec 21) ++ k ++ (0 : BitVec 1) ++ s.err.addr).toNat
      = s.err.addr.toNat + 256 * k.toNat := fun k => by
    have hhigh : ∀ k : BitVec 3, ((0 : BitVec 21) ++ k ++ (0 : BitVec 1)).toNat = 2 * k.toNat := by decide
    rw [BitVec.toNat_append, ← Nat.shiftLeft_add_eq_or_of_lt haddr, hhigh, Nat.shiftLeft_eq]
    omega
  rw [State.errAddrWord, hword]
  cases s.err.kind with
  | none => rfl
  | some k => cases k <;> rfl

/-- Settles O56: a step makes no transaction, or one whose failure it latches, and with ERR latched only the first
step of a `SetMode` makes one. -/
theorem latchedErrorBlocksTransactions : Obligations.LatchedErrorBlocksTransactions := by
  intro i s t h
  have hone : OneTxn s t → ∀ x k a, t.radio.log = x :: s.radio.log → failedTxn x = some (k, a) →
      t.csrRead .err = 1 ∧ t.seq.xerr = true ∧ (t.csrRead .erraddr).toNat = a.toNat + 256 * kindNat (some k) := by
    intro o x k a hx hf
    obtain ⟨⟨hslot, hkind, haddr⟩, hxerr⟩ := o.latched x k a hx hf
    refine ⟨congrArg LatchedError.code hslot, hxerr, ?_⟩
    rw [State.csrRead, errAddrWord_toNat, hkind, haddr]
  have hkinds : ∀ k, kindNat (some k) = match k with | .read => 1 | .write => 2 | .burst => 3 | .await => 4 := fun k => by
    cases k <;> rfl
  simp only [hkinds] at hone
  obtain (n | ⟨hclear, o⟩) | ⟨hfirst, o⟩ := exec_txn h
  · refine ⟨.inl n.drawn, fun x k a hx hf => ?_, fun _ _ _ => ⟨n.drawn, n.answers, n.err⟩⟩
    rw [n.log x hx] at hf
    cases hf
  · refine ⟨.inr o.drawn, hone o, fun he => ?_⟩
    rw [hclear] at he
    cases he
  · refine ⟨.inr o.drawn, hone o, fun _ hmode hstart => ?_⟩
    obtain ⟨c, hp⟩ | ⟨hp, m, hi⟩ := hfirst
    · exact absurd hp (hmode c)
    · exact absurd hi (hstart hp m)

end Sys2Proof.Machine
end

section
/-! PROOFS. The invariant of the machine (10_state.md sections 2, 5 and 6): block reset meets it, each turn of the
host and each step of the block keeps it, and a state that meets it goes on. -/

namespace Sys2Proof.Machine

open Sys2Proof.Config

/-! ### Reset (R240) -/

theorem inv_blockReset (s : State) : Inv s.blockReset where
  phase := rfl
  memory := ⟨rfl, rfl, rfl, rfl⟩
  status := ⟨⟨nofun, fun h => absurd rfl h⟩, nofun, nofun, ⟨nofun, fun h => absurd rfl h⟩, fun _ => rfl, nofun, nofun⟩
  sequencer := ⟨nofun, nofun, Nat.zero_le _, nofun, nofun, nofun⟩
  receive := ⟨fun _ => rfl, Nat.zero_le _, nofun, nofun, nofun, nofun⟩

/-- Settles O58: the reset state is a block reset of itself. -/
theorem resetMeetsInvariant : Obligations.ResetMeetsInvariant :=
  ⟨inv_blockReset (State.resetOf t64), fun p => inv_blockReset (State.resetOf p)⟩

/-! ### What the host's turn can be (R60, R63, R64, R96) -/

/-- `t` is `s` after a host write. -/
inductive WriteMove (s t : State) : Prop where
  | ignored (h : t = s)
  | flags (d l : Bool) (hd : d = true → s.flags.done = true)
      (h : t = { s with flags := { s.flags with done := d, cmdlost := l } })
  | ie (e : IrqEnable) (h : t = { s with ie := e })
  | accept (w : Word) (hf : s.fatal.fatal = false) (hb : s.flags.busy = false) (h : t = s.accept w)
  | operands (o : Operands) (hb : s.flags.busy = false) (ho : s.operands.bytetime ≠ 0 → o.bytetime ≠ 0)
      (h : t = { s with operands := o })
  | txbuf (k : Nat) (v : Byte) (hb : s.flags.busy = false) (hk : k < s.params.maxPacket)
      (h : t = { s with txbuf := memWrite s.txbuf k v })

/-- `t` is `s` after the host's action `op`. -/
inductive HostMove (op : HostOp) (s t : State) : Prop where
  | reset (hop : op = .reset) (h : t = s.blockReset)
  | port (h : t = { s with host := t.host })
  | write (h : WriteMove s t)

theorem issue_move (w : Word) (s : State) : WriteMove s (s.issue w) := by
  unfold State.issue
  split
  · exact .flags s.flags.done true id rfl
  case isFalse hf =>
    split
    · exact .flags s.flags.done true id rfl
    case isFalse hb => exact .accept w (Bool.eq_false_iff.mpr hf) (Bool.eq_false_iff.mpr hb) rfl

theorem storedBytetime_ne_zero (v : Word) : storedBytetime v ≠ 0 := by
  unfold storedBytetime
  split
  · decide
  case isFalse h => exact h

theorem writeOperand_move (r : Csr) (v : Word) (s : State) : WriteMove s (s.writeOperand r v) := by
  unfold State.writeOperand
  split
  · exact .ignored rfl
  case isFalse hb =>
    refine .operands (s.operands.write r v) (Bool.eq_false_iff.mpr hb) (fun h => ?_) rfl
    cases r with
    | bytetime => exact storedBytetime_ne_zero v
    | _ => exact h

theorem csrWrite_move (r : Csr) (v : Word) (s : State) : WriteMove s (s.csrWrite r v) := by
  cases r with
  | cmd => exact issue_move v s
  | status => exact .flags _ _ (fun h => (Bool.and_eq_true_iff.mp h).1) rfl
  | ie => exact .ie _ rfl
  | arg | txlen | timeout | cfg | bytetime | pace => exact writeOperand_move _ v s
  | err | erraddr | fcause | finfo | res | rxlen | rssi | rssiraw | glitchcnt | param0 | param1 => exact .ignored rfl

/-- An offset names an entry of TXBUF only within MAX_PACKET (R45). -/
theorem lt_maxPacket_of_targetOf {p : Params} {off k : Nat} (h : targetOf p off = .txbuf k) : k < p.maxPacket := by
  unfold targetOf at h
  split at h
  · split at h <;> cases h
  · split at h
    · split at h <;> cases h
      assumption
    · split at h
      · split at h <;> cases h
      · cases h

theorem targetWrite_move (off : Nat) (v : Word) (s : State) :
    WriteMove s (s.targetWrite (targetOf s.params off) v) := by
  cases ht : targetOf s.params off with
  | csr r => exact csrWrite_move r v s
  | txbuf k =>
    rw [State.targetWrite, State.writeTx]
    split
    · exact .ignored rfl
    case isFalse hb => exact .txbuf k _ (Bool.eq_false_iff.mpr hb) (lt_maxPacket_of_targetOf ht) rfl
  | rxbuf k => exact .ignored rfl
  | reserved => exact .ignored rfl

theorem hostStep_move {op : HostOp} {s t : State} (h : hostStep op s = .next t) : HostMove op s t := by
  cases op with
  | reset => cases h; exact .reset rfl rfl
  | wait =>
    cases h
    refine .port ?_
    split <;> rfl
  | read bits a =>
    simp only [hostStep] at h
    split at h <;> cases h
    exact .port rfl
  | write bits a v =>
    simp only [hostStep] at h
    split at h <;> cases h
    exact .write (targetWrite_move _ v s)

/-! ### ERR and FATAL over a step (R25, R213) -/

section

variable {s t : State}

theorem WriteMove.err (h : WriteMove s t) : t.err = s.err ∧ t.fatal = s.fatal := by
  cases h with
  | ignored h => rw [h]; exact ⟨rfl, rfl⟩
  | flags d l _ h => rw [h]; exact ⟨rfl, rfl⟩
  | ie e h => rw [h]; exact ⟨rfl, rfl⟩
  | accept w _ _ h => rw [h]; exact ⟨rfl, rfl⟩
  | operands o _ _ h => rw [h]; exact ⟨rfl, rfl⟩
  | txbuf k v _ _ h => rw [h]; exact ⟨rfl, rfl⟩

/-- The host's turn leaves ERR and FATAL but for block reset. -/
theorem HostMove.err {op : HostOp} (h : HostMove op s t) (hop : op ≠ .reset) : t.err = s.err ∧ t.fatal = s.fatal := by
  cases h with
  | reset hr => exact absurd hr hop
  | port h => rw [h]; exact ⟨rfl, rfl⟩
  | write h => exact h.err

/-- While a command runs, BUSY is 1, and FATAL and DONE are 0. -/
theorem StatusCoherent.running {w : Word} {p : Pos} (h : StatusCoherent s) (hp : s.seq.phase = .running w p) :
    s.flags.busy = true ∧ s.fatal.fatal = false ∧ s.flags.done = false := by
  obtain ⟨hbusy, hfatal, hdone, -⟩ := h
  have hb : s.flags.busy = true := hbusy.mpr (by rw [hp]; nofun)
  refine ⟨hb, Bool.eq_false_iff.mpr fun hf => ?_, Bool.eq_false_iff.mpr fun hd => ?_⟩
  · rw [hfatal hf] at hb; cases hb
  · rw [(hdone hd).1] at hb; cases hb

theorem StatusCoherent.idle (h : StatusCoherent s) (hb : s.flags.busy = false) : s.seq.phase = .idle := by
  obtain ⟨hbusy, -⟩ := h
  by_contra hp
  rw [hbusy.mpr hp] at hb
  cases hb

theorem LatchesFailure.errLatched (h : LatchesFailure s t) : t.errLatched = true := by
  obtain ⟨x, k, a, -, -, ⟨hslot, -⟩, -⟩ := h
  exact beq_iff_eq.mpr hslot

theorem errLatched_congr (h : t.err = s.err) : t.errLatched = s.errLatched := by
  rw [State.errLatched, State.errLatched, h]

end

/-- Settles O57: a step that clears ERR is a block step at the first of a `SetMode`; one from a faulted state is the
host's, or an idle turn. -/
theorem onlyResetOrTransitionClears : Obligations.OnlyResetOrTransitionClears := by
  intro s t hphase hstatus hstep hreset
  obtain ⟨-, ⟨op, hop, hhost⟩ | ⟨-, -, rfl⟩ | ⟨w, e, -, hfetch, -, rfl⟩ | ⟨w, i, hturn, hfetch, hd, hexec⟩⟩ :=
    step_cases hstep
  · obtain ⟨herr, hfatal⟩ := (hostStep_move hhost).err fun h => hreset (h ▸ hop)
    refine ⟨fun h h' => ?_, fun _ => hfatal⟩
    rw [errLatched_congr herr] at h'
    exact absurd (h.symm.trans h') nofun
  · exact ⟨fun h h' => absurd (h.symm.trans h') nofun, fun _ => rfl⟩
  · obtain ⟨p, hp⟩ := fetch_eq_some.mp hfetch
    obtain ⟨-, hnofatal, -⟩ := hstatus.running hp
    exact ⟨fun h h' => absurd (h.symm.trans h') nofun, fun h => absurd (hnofatal.symm.trans h) nofun⟩
  · obtain ⟨p, hp⟩ := fetch_eq_some.mp hfetch
    obtain ⟨-, hnofatal, -⟩ := hstatus.running hp
    refine ⟨fun h h' => ?_, fun h => absurd (hnofatal.symm.trans h) nofun⟩
    obtain ⟨herr, -⟩ | ⟨hl, -⟩ | ⟨⟨c, hc⟩ | ⟨hstart, m, rfl⟩, -, -⟩ := exec_err hexec
    · exact absurd (h.symm.trans ((errLatched_congr herr).symm.trans h')) nofun
    · exact absurd (hl.errLatched.symm.trans h') nofun
    · exact ⟨hturn, .inl ⟨c, hc⟩⟩
    · obtain ⟨w', hw'⟩ := pos_eq_some.mp hstart
      have hphase' : s.seq.phase = .running w' .start := hw'
      rw [hp] at hphase'
      cases hphase'
      exact ⟨hturn, .inr ⟨w, m, hp, hd⟩⟩

/-! ### The clauses on the hidden state (R46, R175, R178, R185 to R188) -/

section

variable {i : Instr} {s t u : State} {p q : Pos} {p' : RecvPos}

theorem inRefill_of_not_sendBody {o : Option Pos} (h : inSendBody o = false) : inRefill o = false := by
  unfold inRefill
  split
  case h_4 => rfl
  all_goals cases h

theorem inByteLoop_of_sendBody {o : Option Pos} (h : inSendBody o = true) : inByteLoop o = false := by
  unfold inByteLoop
  split
  case h_4 => rfl
  all_goals cases h

/-- Outside `SendBody` the clauses on the frame say nothing. -/
theorem sequencer_of_not_sendBody (hbody : inSendBody t.pos = false) (hcount : t.seq.count ≤ t.params.rxbufSize)
    (hloop : inByteLoop t.pos = true → t.seq.outcome = .abort ∧ t.seq.budget ≤ t.timeoutNat)
    (hsleep : t.pos = some (.recv .sleep) → 0 < t.seq.budget) (hglitch : t.seq.glitch = true → t.seq.outcome = .packet) :
    SequencerCoherent t :=
  ⟨fun h => absurd (hbody.symm.trans h) nofun,
    fun h => absurd ((inRefill_of_not_sendBody hbody).symm.trans h) nofun, hcount, hloop, hsleep, hglitch⟩

/-- Outside both loops only the count and the glitch indicator are bound. -/
theorem SequencerCoherent.outside (h : SequencerCoherent s) (hparams : t.params = s.params)
    (hcount : t.seq.count = s.seq.count) (hout : t.seq.outcome = s.seq.outcome) (hglitch : t.seq.glitch = s.seq.glitch)
    (hbody : inSendBody t.pos = false) (hloop : inByteLoop t.pos = false) : SequencerCoherent t := by
  obtain ⟨-, -, hn, -, -, hg⟩ := h
  refine sequencer_of_not_sendBody hbody ?_ (fun h => absurd (hloop.symm.trans h) nofun) (fun h => ?_) ?_
  · rw [hcount, hparams]
    exact hn
  · rw [h] at hloop
    cases hloop
  · rw [hglitch, hout]
    exact hg

/-- The clause on the frame, at any position. -/
def FrameLoaded (s : State) : Prop :=
  s.seq.len = s.txlenNat ∧ s.seq.len ≤ s.params.maxPacket ∧ s.seq.frameLen = s.seq.len + 1
    ∧ s.seq.frame = memSlice s.txbuf 0 s.seq.len ++ [0]

theorem SequencerCoherent.sendBody (h : SequencerCoherent s) (hparams : t.params = s.params)
    (hcount : t.seq.count = s.seq.count) (hout : t.seq.outcome = s.seq.outcome) (hglitch : t.seq.glitch = s.seq.glitch)
    (hframe : FrameLoaded t) (hrefill : inRefill t.pos = true → t.seq.sent < t.seq.frameLen)
    (hbody : inSendBody t.pos = true) : SequencerCoherent t := by
  obtain ⟨-, -, hn, -, -, hg⟩ := h
  have hloop := inByteLoop_of_sendBody hbody
  refine ⟨fun _ => hframe, hrefill, ?_, fun h => absurd (hloop.symm.trans h) nofun, fun h => ?_, ?_⟩
  · rw [hcount, hparams]
    exact hn
  · rw [h] at hloop
    cases hloop
  · rw [hglitch, hout]
    exact hg

/-- A quiet step that keeps the frame's items keeps the clause on them. -/
theorem FrameLoaded.of_quiet (h : FrameLoaded s) (hq : QuietStep s t) (hlen : t.seq.len = s.seq.len)
    (hframeLen : t.seq.frameLen = s.seq.frameLen) (hframe : t.seq.frame = s.seq.frame) : FrameLoaded t := by
  unfold FrameLoaded State.txlenNat at *
  rw [hlen, hframeLen, hframe, hq.operands, hq.params, hq.txbuf]
  exact h

theorem FrameLoaded.of_modeStep (h : FrameLoaded s) {m : BitVec 3} {c : ModeCall} {p : ModeStep} :
    FrameLoaded (modeStep m c p s) := by
  have hseq := modeStep_modeSeq m c p s
  exact h.of_quiet (modeStep_quiet m c p s) (by rw [hseq]) (by rw [hseq]) (by rw [hseq])

theorem frameLoaded_loadFrame (hl : s.txlenNat ≤ s.params.maxPacket) : FrameLoaded s.loadFrame := ⟨rfl, hl, rfl, rfl⟩

/-! ### A step of `SetMode` or of `SendBody` -/

/-- A call of `SetMode` stands in `SendBody` or outside; returning, it stays there or leaves it. -/
theorem mode_in_sendBody {c : ModeCall} (h : inSendBody (some (modeReturn c)) = true) (p : ModeStep) :
    inSendBody (some (.mode c p)) = true := by
  cases c with
  | sendStandby => rfl
  | command | sendSettle | recvReceiver | recvSettle => cases h

theorem inSendBody_mode (c : ModeCall) (p r : ModeStep) :
    inSendBody (some (.mode c p)) = inSendBody (some (.mode c r)) := by cases c <;> rfl

theorem mode_not_in_loops (c : ModeCall) : inRefill (some (modeReturn c)) = false
    ∧ inByteLoop (some (modeReturn c)) = false ∧ ∀ r, inByteLoop (some (.mode c r)) = false := by
  cases c <;> exact ⟨rfl, rfl, fun _ => rfl⟩

/-- Where a `SetMode` goes is in no loop, and in `SendBody` only if the call is. -/
theorem modeTarget {c : ModeCall} (hq : q = modeReturn c ∨ ∃ r, q = .mode c r) :
    inRefill (some q) = false ∧ inByteLoop (some q) = false
      ∧ (inSendBody (some q) = true → ∀ p, inSendBody (some (.mode c p)) = true) := by
  obtain ⟨h1, h2, h3⟩ := mode_not_in_loops c
  obtain rfl | ⟨r, rfl⟩ := hq
  · exact ⟨h1, h2, mode_in_sendBody⟩
  · exact ⟨rfl, h3 r, fun h p => (inSendBody_mode c p r).trans h⟩

/-- A step of `SetMode` from a state whose frame is loaded if the call stands in `SendBody`. -/
theorem SequencerCoherent.modeSeq {c : ModeCall} (h : SequencerCoherent s) (hparams : t.params = s.params)
    (hseq : ModeSeq s t) (hpos : t.pos = some (modeReturn c) ∨ ∃ r, t.pos = some (.mode c r))
    (hframe : (∀ p, inSendBody (some (.mode c p)) = true) → FrameLoaded t) : SequencerCoherent t := by
  have hcount : t.seq.count = s.seq.count := by rw [hseq]
  have hout : t.seq.outcome = s.seq.outcome := by rw [hseq]
  have hglitch : t.seq.glitch = s.seq.glitch := by rw [hseq]
  obtain ⟨q, hp, hq⟩ : ∃ q, t.pos = some q ∧ (q = modeReturn c ∨ ∃ r, q = .mode c r) :=
    hpos.elim (fun hp => ⟨_, hp, .inl rfl⟩) fun ⟨r, hp⟩ => ⟨_, hp, .inr ⟨r, rfl⟩⟩
  obtain ⟨hrefill, hloop, hbody⟩ := modeTarget hq
  rw [← hp] at hrefill hloop hbody
  cases hb : inSendBody t.pos with
  | true =>
    exact h.sendBody hparams hcount hout hglitch (hframe (hbody hb)) (fun h => absurd (hrefill.symm.trans h) nofun) hb
  | false => exact h.outside hparams hcount hout hglitch hb hloop

theorem sequencer_modeStep {m : BitVec 3} {c : ModeCall} {p : ModeStep} (h : SequencerCoherent s)
    (hp : s.pos = some (.mode c p)) : SequencerCoherent (modeStep m c p s) := by
  refine h.modeSeq (modeStep_quiet m c p s).params (modeStep_modeSeq m c p s) (modeStep_pos p hp) fun hbody => ?_
  obtain ⟨hframe, -⟩ := h
  have hloaded : FrameLoaded s := hframe (by rw [hp]; exact hbody p)
  exact hloaded.of_modeStep

theorem sequencer_sendBodyStart (h : SequencerCoherent s) (hp : s.pos = some .start)
    (hl : s.txlenNat ≤ s.params.maxPacket) : SequencerCoherent (sendBodyStart s) := by
  have hload : SequencerCoherent s.loadFrame := by
    refine h.outside rfl rfl rfl rfl ?_ ?_
    · rw [show s.loadFrame.pos = some .start from hp]; rfl
    · rw [show s.loadFrame.pos = some .start from hp]; rfl
  exact hload.modeSeq (modeEnter_quiet modeStandby .sendStandby s.loadFrame).params
    (modeEnter_modeSeq modeStandby .sendStandby s.loadFrame)
    ((modeEnter_pos (s := s.loadFrame) hp).imp_right fun h => ⟨_, h⟩)
    fun _ => (frameLoaded_loadFrame hl).of_modeStep (p := .enter)

/-- In the refill loop bytes are left: a burst leads there only then, and a poll or a pause sends none. -/
theorem sendStep_left {r : SendPos} (hp : s.pos = some (.send r))
    (hleft : inRefill s.pos = true → s.seq.sent < s.seq.frameLen) (hq : inRefill (sendStep r s).pos = true) :
    (sendStep r s).seq.sent < (sendStep r s).seq.frameLen := by
  have burst : ∀ {k u}, u.pos = some (.send r) →
      inRefill ((sendBurst k u).goto (streamPos (sendBurst k u))).pos = true →
      (sendBurst k u).seq.sent < (sendBurst k u).seq.frameLen := fun {k u} hu h => by
    rw [sendBurst_pos_goto k hu] at h
    obtain ⟨-, hlt, -⟩ | ⟨hw, -⟩ := streamPos_cases (sendBurst k u)
    · exact hlt
    · rw [hw] at h
      cases h
  cases r with
  | clear => rw [sendStep, (rwrite_port _ _ s).pos_goto hp] at hq; cases hq
  | arm => rw [sendStep, (rwrite_port _ _ s).pos_goto hp] at hq; cases hq
  | length => rw [sendStep, (rwrite_port _ _ s).pos_goto hp] at hq; cases hq
  | first => exact burst (u := s.setSent 0) hp hq
  | pace => exact hleft (by rw [hp]; rfl)
  | poll =>
    have hsent : (sendPoll s).seq.sent = s.seq.sent := by
      have h := rread_port s.params.profile.aIrqFlags2 s
      unfold sendPoll
      dsimp only
      split
      · exact h.seq_sent
      · split <;> exact h.seq_sent
    rw [show (sendStep .poll s).seq.frameLen = s.seq.frameLen by rw [sendStep_sendSeq .poll s],
      show (sendStep .poll s).seq.sent = s.seq.sent from hsent]
    exact hleft (by rw [hp]; rfl)
  | refill => exact burst hp hq
  | wait =>
    have h := rread_port s.params.profile.aOpmode s
    simp only [sendStep, sendWait] at hq
    split at hq
    · rw [h.pos_goto hp] at hq; cases hq
    · split at hq <;> rw [h.pos_goto hp] at hq <;> cases hq
  | stop => rw [sendStep, (rwrite_port _ _ s).pos_goto hp] at hq; cases hq

/-- A step of `SendBody` outside its `SetMode`s stays in `SendBody`. -/
theorem sendStep_pos {r : SendPos} (hp : s.pos = some (.send r)) :
    (∃ r', (sendStep r s).pos = some (.send r')) ∨ (sendStep r s).pos = some (.mode .sendSettle .enter) := by
  have stream : ∀ u : State, ∃ r', streamPos u = .send r' := fun u => by
    obtain ⟨h, -⟩ | ⟨h, -⟩ := streamPos_cases u
    · obtain h' | h' := refillPos_cases u
      · exact ⟨_, h.trans h'⟩
      · exact ⟨_, h.trans h'⟩
    · exact ⟨_, h⟩
  have burst : ∀ {k u}, u.pos = some (.send r) →
      ∃ r', ((sendBurst k u).goto (streamPos (sendBurst k u))).pos = some (.send r') := fun {k u} hu => by
    obtain ⟨r', h⟩ := stream (sendBurst k u)
    exact ⟨r', (sendBurst_pos_goto k hu _).trans (congrArg some h)⟩
  cases r with
  | clear => exact .inl ⟨_, (rwrite_port _ _ s).pos_goto hp⟩
  | arm => exact .inl ⟨_, (rwrite_port _ _ s).pos_goto hp⟩
  | length => exact .inl ⟨_, (rwrite_port _ _ s).pos_goto hp⟩
  | first => exact .inl (burst (u := s.setSent 0) hp)
  | pace => exact .inl ⟨_, (sleep_port s _).pos_goto hp⟩
  | poll =>
    have h := rread_port s.params.profile.aIrqFlags2 s
    simp only [sendStep, sendPoll]
    split
    · exact .inl ⟨_, h.pos_goto hp⟩
    · split
      · exact .inl ⟨_, h.pos_goto hp⟩
      · obtain hr | hr := refillPos_cases (rread s.params.profile.aIrqFlags2 s)
        · exact .inl ⟨_, (h.pos_goto hp).trans (congrArg some hr)⟩
        · exact .inl ⟨_, (h.pos_goto hp).trans (congrArg some hr)⟩
  | refill => exact .inl (burst hp)
  | wait =>
    have h := rread_port s.params.profile.aOpmode s
    simp only [sendStep, sendWait]
    split
    · exact .inl ⟨_, h.pos_goto hp⟩
    · split <;> exact .inl ⟨_, h.pos_goto hp⟩
  | stop => exact .inr ((rwrite_port _ _ s).pos_goto hp)

theorem sequencer_sendStep {r : SendPos} (h : SequencerCoherent s) (hp : s.pos = some (.send r)) :
    SequencerCoherent (sendStep r s) := by
  have hseq := sendStep_sendSeq r s
  have hquiet := sendStep_quiet r s
  have hsame : (sendStep r s).seq.count = s.seq.count ∧ (sendStep r s).seq.outcome = s.seq.outcome
      ∧ (sendStep r s).seq.glitch = s.seq.glitch := by
    rw [hseq]
    exact ⟨rfl, rfl, rfl⟩
  obtain ⟨hcount, hout, hglitch⟩ := hsame
  obtain ⟨hframe, hleft, -⟩ := id h
  have hloaded : FrameLoaded s := hframe (by rw [hp]; rfl)
  refine h.sendBody hquiet.params hcount hout hglitch
    (hloaded.of_quiet hquiet (by rw [hseq]) (by rw [hseq]) (by rw [hseq])) (sendStep_left hp hleft) ?_
  obtain ⟨r', hp'⟩ | hp' := sendStep_pos hp
  · rw [hp']; rfl
  · rw [hp']; rfl

/-! ### A step of `Receive` -/

/-- A step of `Receive` that leaves the byte loop with the outcome as it was. -/
theorem SequencerCoherent.leaveLoop (h : SequencerCoherent s) (hp : s.pos = some p) (hport : PortStep s t)
    (hq : inSendBody (some q) = false ∧ inByteLoop (some q) = false) : SequencerCoherent (t.goto q) := by
  have hnext : (t.goto q).pos = some q := hport.pos_goto hp
  refine h.outside hport.params hport.seq_count hport.seq_outcome hport.seq_glitch ?_ ?_
  · rw [hnext]; exact hq.1
  · rw [hnext]; exact hq.2

/-- The byte loop ends with an outcome other than a packet: no glitch byte was dropped, since the outcome was ABORT. -/
theorem SequencerCoherent.endLoop (h : SequencerCoherent s) (hp : s.pos = some (.recv p')) (hloop : inByteLoop s.pos = true)
    (hport : PortStep s t) (o : RxOutcome) : SequencerCoherent ((t.setOutcome o).goto (.mode .recvSettle .enter)) := by
  obtain ⟨-, -, hn, habort, -, hg⟩ := h
  have hnext : ((t.setOutcome o).goto (.mode .recvSettle .enter)).pos = some (.mode .recvSettle .enter) :=
    setOutcome_pos_goto hport hp
  have hnoglitch : ¬ t.seq.glitch = true := fun h => by
    rw [hport.seq_glitch] at h
    rw [(habort hloop).1] at hg
    cases hg h
  refine sequencer_of_not_sendBody ?_ ?_ ?_ ?_ (fun h => absurd h hnoglitch)
  · rw [hnext]; rfl
  · exact (hport.seq_count.trans_le hn).trans_eq (congrArg _ hport.params.symm)
  · rw [hnext]; nofun
  · rw [hnext]; nofun

/-- A step inside the byte loop: ABORT stays, the budget does not rise, and a sleep has some of it. -/
theorem SequencerCoherent.inLoop (h : SequencerCoherent s) (hloop : inByteLoop s.pos = true) (hp : t.pos = some q)
    (hq : inSendBody (some q) = false) (hparams : t.params = s.params) (hops : t.operands = s.operands)
    (hcount : t.seq.count ≤ s.params.rxbufSize) (hout : t.seq.outcome = s.seq.outcome)
    (hbudget : t.seq.budget ≤ s.seq.budget) (hglitch : t.seq.glitch = s.seq.glitch)
    (hsleep : q = .recv .sleep → 0 < t.seq.budget) : SequencerCoherent t := by
  obtain ⟨-, -, -, habort, -, hg⟩ := h
  obtain ⟨ho, hb⟩ := habort hloop
  refine sequencer_of_not_sendBody ?_ ?_ (fun _ => ⟨hout.trans ho, ?_⟩) (fun hs => hsleep ?_) ?_
  · rw [hp]; exact hq
  · rw [hparams]; exact hcount
  · rw [State.timeoutNat, hops]
    exact hbudget.trans hb
  · rw [hp] at hs
    exact Option.some.inj hs
  · rw [hglitch, hout]; exact hg

theorem sequencer_recvPoll (h : SequencerCoherent s) (hp : s.pos = some (.recv .poll)) :
    SequencerCoherent (recvPoll s) := by
  have hloop : inByteLoop s.pos = true := by rw [hp]; rfl
  obtain ⟨-, -, hn, -⟩ := id h
  cases he : s.errLatched with
  | true =>
    rw [recvPoll_latched he]
    exact h.leaveLoop hp (.refl s) ⟨rfl, rfl⟩
  | false => cases ha : s.nextAnswer with
    | fail =>
      rw [recvPoll_fail he ha]
      exact h.leaveLoop hp (failRead_port _ s) ⟨rfl, rfl⟩
    | ok f => cases hf : flagSet f s.params.profile.mFifoEmpty with
      | false =>
        rw [recvPoll_notEmpty he ha hf]
        exact h.inLoop hloop ((transact_port s _).pos_goto hp) rfl rfl rfl hn rfl le_rfl rfl nofun
      | true =>
        obtain hb | hb := Nat.eq_zero_or_pos s.seq.budget
        · rw [recvPoll_empty_of_no_budget he ha hf hb]
          exact h.endLoop hp hloop (okRead_port _ f s) .timeout
        · rw [recvPoll_empty_of_budget he ha hf hb]
          exact h.inLoop hloop ((okRead_port _ f s).pos_goto hp) rfl rfl rfl hn rfl le_rfl rfl fun _ => hb

theorem sentinel_count_le (s : State) : s.sentinel.seq.count ≤ s.seq.count := by
  unfold State.sentinel
  split
  · exact Nat.sub_le _ _
  · exact le_rfl

theorem sequencer_recvByte (h : SequencerCoherent s) (hp : s.pos = some (.recv .byte)) :
    SequencerCoherent (recvByte s) := by
  have hloop : inByteLoop s.pos = true := by rw [hp]; rfl
  obtain ⟨-, -, hn, -⟩ := id h
  cases he : s.errLatched with
  | true =>
    rw [recvByte_latched he]
    exact h.leaveLoop hp (.refl s) ⟨rfl, rfl⟩
  | false => cases ha : s.nextAnswer with
    | fail =>
      rw [recvByte_fail he ha]
      exact h.leaveLoop hp (failRead_port _ s) ⟨rfl, rfl⟩
    | ok b =>
      by_cases hb : b = 0
      · subst hb
        rw [recvByte_sentinel he ha]
        have hnext : ((s.transact (.read s.params.profile.aFifo (.ok 0))).sentinel.goto
            (.mode .recvSettle .enter)).pos = some (.mode .recvSettle .enter) :=
          pos_goto_of_running ((sentinel_pos _).trans hp)
        refine sequencer_of_not_sendBody ?_ ?_ ?_ ?_ fun _ => rfl
        · rw [hnext]; rfl
        · refine (sentinel_count_le _).trans (hn.trans_eq ?_)
          unfold State.sentinel
          split <;> rfl
        · rw [hnext]; nofun
        · rw [hnext]; nofun
      by_cases hfull : s.seq.count = s.params.rxbufSize
      · rw [recvByte_full he ha hb hfull]
        exact h.endLoop hp hloop (transact_port s _) .overflow
      · rw [recvByte_store he ha hb hfull]
        exact h.inLoop hloop (pos_goto_of_running (s := (State.writeRx _ _ _).setCount _) hp) rfl rfl rfl
          (Nat.lt_of_le_of_ne hn hfull) rfl le_rfl rfl nofun

theorem sequencer_recvStep {r : RecvPos} (h : SequencerCoherent s) (hp : s.pos = some (.recv r)) :
    SequencerCoherent (recvStep r s) := by
  cases r with
  | await => exact h.leaveLoop hp (rawait_port _ s) ⟨rfl, rfl⟩
  | rssi =>
    have hport := rread_port s.params.profile.aRssiValue s
    have hnext : (recvRssi s).pos = some (.recv .poll) :=
      pos_goto_of_running (s := (rread s.params.profile.aRssiValue s).startReceive (rreadByte s)) (hport.pos.trans hp)
    refine sequencer_of_not_sendBody ?_ (Nat.zero_le _) (fun _ => ⟨rfl, le_rfl⟩) ?_ nofun
    · rw [recvStep, hnext]; rfl
    · rw [recvStep, hnext]; nofun
  | poll => exact sequencer_recvPoll h hp
  | sleep =>
    obtain ⟨-, -, hn, -⟩ := id h
    exact h.inLoop (by rw [hp]; rfl) (pos_goto_of_running (s := (sleep _ s).setBudget _) hp) rfl rfl rfl hn rfl
      (Nat.sub_le _ _) rfl nofun
  | byte => exact sequencer_recvByte h hp
  | clear => exact h.leaveLoop hp (rwrite_port _ _ s) ⟨rfl, rfl⟩

/-! ### A block step keeps each part of the invariant -/

/-- An idle state holds no clause but the two on hidden state at rest (log 25). -/
theorem SequencerCoherent.idle (h : SequencerCoherent s) (hparams : t.params = s.params) (hp : t.seq.phase = .idle)
    (hcount : t.seq.count = s.seq.count) (hout : t.seq.outcome = s.seq.outcome) (hglitch : t.seq.glitch = s.seq.glitch) :
    SequencerCoherent t := by
  have hpos : t.pos = none := pos_eq_none.mpr hp
  refine h.outside hparams hcount hout hglitch ?_ ?_
  · rw [hpos]; rfl
  · rw [hpos]; rfl

theorem StepCase.sequencer (hc : StepCase i s t) (h : SequencerCoherent s) : SequencerCoherent t := by
  cases hc with
  | fatal c v ht => subst ht; exact h.idle rfl rfl rfl rfl rfl
  | completePure e _ _ ht => subst ht; exact h.idle rfl rfl rfl rfl rfl
  | completeDevice e _ _ ht => subst ht; exact h.idle rfl rfl rfl rfl rfl
  | noReceive _ ht => subst ht; exact h.idle rfl rfl rfl rfl rfl
  | received _ ht => subst ht; exact h.idle rfl rfl rfl rfl rfl
  | line hl =>
    obtain ⟨q, hq, -, -, hbody, hloop⟩ := hl.next
    have hseq := hl.seq
    refine h.outside hl.params (by rw [hseq]) (by rw [hseq]) (by rw [hseq]) ?_ ?_
    · rw [hq]; exact hbody
    · rw [hq]; exact hloop
  | mode m c p _ hp ht => subst ht; exact sequencer_modeStep h hp
  | sendStart _ hp hl _ ht => subst ht; exact sequencer_sendBodyStart h hp hl
  | send p _ hp ht => subst ht; exact sequencer_sendStep h hp
  | recv p _ hp ht => subst ht; exact sequencer_recvStep h hp

theorem belongs_of_send {r : SendPos} (hi : i = .send ∨ i = .sendrecv) : (Pos.send r).belongs i = true := by
  obtain rfl | rfl := hi
  · rfl
  · rfl

theorem belongs_of_receive (hi : i = .recv ∨ i = .sendrecv) :
    (∀ r, (Pos.recv r).belongs i = true) ∧ Pos.finish.belongs i = true := by
  obtain rfl | rfl := hi
  · exact ⟨fun _ => rfl, rfl⟩
  · exact ⟨fun _ => rfl, rfl⟩

/-- A step that leaves the command running leaves it at a position of its own. -/
theorem StepCase.belongs (hc : StepCase i s t) (hq : t.pos = some q) : q.belongs i = true := by
  have ended : ∀ {P : Prop}, t.seq.phase = .idle → P := fun h => by
    rw [pos_eq_none.mpr h] at hq
    cases hq
  have at_ : ∀ {q'}, t.pos = some q' → q'.belongs i = true → q.belongs i = true := fun h h' => by
    rw [h] at hq
    cases hq
    exact h'
  cases hc with
  | fatal c v h => exact ended (by rw [h]; rfl)
  | completePure e _ _ h => exact ended (by rw [h]; rfl)
  | completeDevice e _ _ h => exact ended (by rw [h]; rfl)
  | noReceive _ h => exact ended (by rw [h]; rfl)
  | received _ h => exact ended (by rw [h]; rfl)
  | line h =>
    obtain ⟨q', hq', -, hb, -, -⟩ := h.next
    exact at_ hq' hb
  | mode m c p hcall hp h =>
    subst h
    obtain ⟨hmode, hreturn⟩ := hcall.belongs
    obtain h | ⟨r, h⟩ := modeStep_pos (m := m) (c := c) p hp
    · exact at_ h hreturn
    · exact at_ h (hmode r)
  | sendStart hi hp _ _ h =>
    subst h
    obtain ⟨hmode, hreturn⟩ := (callsMode_sendStandby (s := s) hi).belongs
    obtain h | h := modeEnter_pos (m := modeStandby) (c := .sendStandby) (s := s.loadFrame) hp
    · exact at_ h hreturn
    · exact at_ h (hmode _)
  | send p hi hp h =>
    subst h
    obtain ⟨r, h⟩ | h := sendStep_pos hp
    · exact at_ h (belongs_of_send hi)
    · exact at_ h ((callsMode_sendSettle (s := s) hi).belongs.1 _)
  | recv p hi hp h =>
    subst h
    obtain ⟨hrecv, hfinish⟩ := belongs_of_receive hi
    obtain ⟨r, h⟩ | h | h := recvStep_pos p hp
    · exact at_ h (hrecv r)
    · exact at_ h ((callsMode_recvSettle (s := s) hi).belongs.1 _)
    · exact at_ h hfinish

/-- A block step ends the command or keeps its word. -/
theorem BlockMove.phase (h : BlockMove s t) : t.seq.phase = .idle ∨ ∃ q, t.seq.phase = s.seq.phase.move q := by
  cases h with
  | body b => exact .inr b.phase
  | fatal c v h => rw [h]; exact .inl rfl
  | completePure e h => rw [h]; exact .inl rfl
  | completeDevice e r h => rw [h]; exact .inl rfl

theorem exec_phaseCoherent {w : Word} (hrun : s.seq.phase = .running w p) (hd : decode w = .ok i)
    (hx : exec i s = .next t) : PhaseCoherent t := by
  obtain h | ⟨q, h⟩ := (exec_move hx).phase
  · rw [PhaseCoherent, h]
    rfl
  · have hphase : t.seq.phase = .running w q := by rw [h, hrun]; rfl
    rw [PhaseCoherent, hphase]
    simp only [phaseOk, hd]
    exact (exec_cases hx).belongs (pos_eq_some.mpr ⟨w, hphase⟩)

/-- The only write to RXBUF: a byte at the count, below RXBUF_SIZE (R187). -/
theorem recvStep_rxbuf (r : RecvPos) (s : State) : (recvStep r s).rxbuf = s.rxbuf
    ∨ ∃ b, s.seq.count ≠ s.params.rxbufSize ∧ (recvStep r s).rxbuf = memWrite s.rxbuf s.seq.count b := by
  cases r with
  | await => exact .inl (rawait_port _ s).rxbuf
  | rssi => exact .inl (rread_port _ s).rxbuf
  | poll =>
    have h := rread_port s.params.profile.aIrqFlags2 s
    simp only [recvStep, recvPoll]
    split
    · exact .inl h.rxbuf
    · split
      · split <;> exact .inl h.rxbuf
      · exact .inl h.rxbuf
  | sleep => exact .inl rfl
  | byte =>
    have h := rread_port s.params.profile.aFifo s
    simp only [recvStep, recvByte, h.seq_count, h.params]
    split
    · exact .inl h.rxbuf
    · split
      · refine .inl (Eq.trans ?_ h.rxbuf)
        unfold State.sentinel
        split <;> rfl
      · split
        · exact .inl h.rxbuf
        case isFalse hn => exact .inr ⟨_, hn, congrArg (memWrite · _ _) h.rxbuf⟩
  | clear => exact .inl (rwrite_port _ _ s).rxbuf

theorem exec_memoryCanonical (hm : MemoryCanonical s) (hs : SequencerCoherent s) (hx : exec i s = .next t) :
    MemoryCanonical t := by
  obtain ⟨htxwf, htxbelow, hrxwf, hrxbelow⟩ := hm
  obtain ⟨-, -, hn, -⟩ := hs
  have hrx : Memory.wf t.rxbuf = true ∧ Memory.below s.params.rxbufSize t.rxbuf = true := by
    obtain ⟨hbuf, -⟩ | ⟨r, -, -, rfl⟩ := (exec_cases hx).receiveSide
    · rw [hbuf]
      exact ⟨hrxwf, hrxbelow⟩
    · obtain hbuf | ⟨b, hne, hbuf⟩ := recvStep_rxbuf r s
      · rw [hbuf]
        exact ⟨hrxwf, hrxbelow⟩
      · rw [hbuf]
        exact ⟨memWrite_wf _ b hrxwf, memWrite_below b (Nat.lt_of_le_of_ne hn hne) hrxbelow⟩
  rw [MemoryCanonical, (exec_move hx).txbuf, exec_params hx]
  exact ⟨htxwf, htxbelow, hrx⟩

/-- A latched error has a record (R211). -/
theorem exec_err_kind (h : s.err.slot = .transport → s.err.kind ≠ none) (hx : exec i s = .next t) :
    t.err.slot = .transport → t.err.kind ≠ none := by
  obtain ⟨herr, -⟩ | ⟨⟨x, k, a, -, -, ⟨-, hkind, -⟩, -⟩, -⟩ | ⟨-, herr, -⟩ := exec_err hx
  · rw [herr]
    exact h
  · rw [hkind]
    exact fun _ => nofun
  · rw [herr]
    nofun

theorem move_eq_idle {ph : Phase} : ph.move q = .idle ↔ ph = .idle := by
  cases ph with
  | idle => exact iff_of_true rfl rfl
  | running w p => exact iff_of_false nofun nofun

theorem exec_statusCoherent {w : Word} (h : StatusCoherent s) (hrun : s.seq.phase = .running w p)
    (hx : exec i s = .next t) : StatusCoherent t := by
  obtain ⟨-, hnofatal, hnotdone⟩ := h.running hrun
  obtain ⟨hbusy, hfatal, hdone, hcause, hinfo, hkind, hbytetime⟩ := h
  have hkind' := exec_err_kind hkind hx
  cases exec_move hx with
  | body b =>
    obtain ⟨q, hq⟩ := b.phase
    rw [StatusCoherent, b.flags, b.fatal, b.operands, hq]
    exact ⟨hbusy.trans (not_congr move_eq_idle).symm, hfatal, hdone, hcause, hinfo, hkind', hbytetime⟩
  | fatal c v ht =>
    subst ht
    exact ⟨⟨nofun, fun h => absurd rfl h⟩, fun _ => rfl, fun h => absurd (hnotdone.symm.trans h) nofun,
      ⟨fun _ => nofun, fun _ => rfl⟩, nofun, hkind', hbytetime⟩
  | completePure e ht =>
    subst ht
    exact ⟨⟨nofun, fun h => absurd rfl h⟩, fun _ => rfl, fun _ => ⟨rfl, hnofatal⟩, hcause, hinfo, hkind', hbytetime⟩
  | completeDevice e r ht =>
    subst ht
    exact ⟨⟨nofun, fun h => absurd rfl h⟩, fun _ => rfl, fun _ => ⟨rfl, hnofatal⟩, hcause, hinfo, hkind', hbytetime⟩

/-- What R190 commits is legal: RXLEN is the count, within RXBUF, or 0; the outcome sets at most one bit. -/
theorem receiveGroupLegal_commit (h : SequencerCoherent s) : ReceiveGroupLegal s.commitReceive.completeDevice := by
  obtain ⟨-, -, hn, -, -, hg⟩ := h
  have hlen : s.commitReceive.rx.rxlen.toNat ≤ s.params.rxbufSize := by
    by_cases ho : s.seq.outcome = .packet
    · have hmod : s.commitReceive.rx.rxlen.toNat = s.seq.count % 2 ^ 32 := congrArg BitVec.toNat (if_pos ho)
      exact hmod.trans_le ((Nat.mod_le _ _).trans hn)
    · rw [commitReceive_rxlen_no_packet ho]
      exact Nat.zero_le _
  have hone : ∀ {o o' : RxOutcome}, o ≠ o' → ¬((s.seq.outcome == o) = true ∧ (s.seq.outcome == o') = true) :=
    fun hne ⟨h, h'⟩ => hne ((beq_iff_eq.mp h).symm.trans (beq_iff_eq.mp h'))
  exact ⟨fun h => commitReceive_rxlen_no_packet (beq_eq_false_iff_ne.mp h), hlen, fun h => beq_iff_eq.mpr (hg h),
    hone nofun, hone nofun, hone nofun⟩

theorem ReceiveGroupLegal.congr (h : ReceiveGroupLegal s) (hrx : t.rx = s.rx) (hparams : t.params = s.params) :
    ReceiveGroupLegal t := by
  rw [ReceiveGroupLegal, hrx, hparams]
  exact h

theorem StepCase.receiveGroup (hc : StepCase i s t) (h : ReceiveGroupLegal s) (hs : SequencerCoherent s) :
    ReceiveGroupLegal t := by
  cases hc with
  | fatal c v ht => subst ht; exact h
  | completePure e _ _ ht => subst ht; exact h
  | completeDevice e _ _ ht => subst ht; exact h
  | noReceive _ ht => subst ht; exact ⟨fun _ => rfl, Nat.zero_le _, nofun, nofun, nofun, nofun⟩
  | received _ ht => subst ht; exact receiveGroupLegal_commit hs
  | line hl => exact h.congr hl.rx hl.params
  | mode m c p _ _ ht => subst ht; exact h.congr (modeStep_quiet m c p s).rx (modeStep_quiet m c p s).params
  | sendStart _ _ _ _ ht => subst ht; exact h.congr (sendBodyStart_quiet s).rx (sendBodyStart_quiet s).params
  | send p _ _ ht => subst ht; exact h.congr (sendStep_quiet p s).rx (sendStep_quiet p s).params
  | recv p _ _ ht => subst ht; exact h.congr (recvStep_body p s).rx (recvStep_body p s).params

theorem inv_exec {w : Word} (h : Inv s) (hrun : s.seq.phase = .running w p) (hd : decode w = .ok i)
    (hx : exec i s = .next t) : Inv t where
  phase := exec_phaseCoherent hrun hd hx
  memory := exec_memoryCanonical h.memory h.sequencer hx
  status := exec_statusCoherent h.status hrun hx
  sequencer := (exec_cases hx).sequencer h.sequencer
  receive := (exec_cases hx).receiveGroup h.receive h.sequencer

/-! ### A turn of the host keeps it -/

/-- The invariant does not speak of the host's port. -/
theorem Inv.withHost (h : Inv s) (port : HostPort) : Inv { s with host := port } :=
  ⟨h.phase, h.memory, h.status, h.sequencer, h.receive⟩

theorem inv_raiseFatal {w : Word} {c : FatalCause} {v : Word} (h : Inv s) (hrun : s.seq.phase = .running w p) :
    Inv (s.raiseFatal c v) := by
  obtain ⟨-, -, hnotdone⟩ := h.status.running hrun
  obtain ⟨-, -, -, -, -, hkind, hbytetime⟩ := h.status
  exact ⟨rfl, h.memory,
    ⟨⟨nofun, fun h => absurd rfl h⟩, fun _ => rfl, fun h => absurd (hnotdone.symm.trans h) nofun,
      ⟨fun _ => nofun, fun _ => rfl⟩, nofun, hkind, hbytetime⟩,
    h.sequencer.idle rfl rfl rfl rfl rfl, h.receive⟩

theorem inv_accept (h : Inv s) (w : Word) (hf : s.fatal.fatal = false) : Inv (s.accept w) := by
  obtain ⟨-, -, -, hcause, hinfo, hkind, hbytetime⟩ := h.status
  refine ⟨?_, h.memory, ⟨⟨fun _ => nofun, fun _ => rfl⟩, fun h => absurd (hf.symm.trans h) nofun, nofun, hcause, hinfo,
    hkind, hbytetime⟩, h.sequencer.outside rfl rfl rfl rfl rfl rfl, h.receive⟩
  rw [PhaseCoherent, accept_seq_phase, phaseOk]
  split
  · rfl
  · rfl

theorem WriteMove.inv (hw : WriteMove s t) (h : Inv s) : Inv t := by
  cases hw with
  | ignored ht => rw [ht]; exact h
  | flags d l hd ht =>
    subst ht
    obtain ⟨hbusy, hfatal, hdone, hrest⟩ := h.status
    exact ⟨h.phase, h.memory, ⟨hbusy, hfatal, fun h => hdone (hd h), hrest⟩, h.sequencer, h.receive⟩
  | ie e ht => subst ht; exact ⟨h.phase, h.memory, h.status, h.sequencer, h.receive⟩
  | accept w hf hb ht => subst ht; exact inv_accept h w hf
  | operands o hb ho ht =>
    subst ht
    obtain ⟨hbusy, hfatal, hdone, hcause, hinfo, hkind, hbytetime⟩ := h.status
    exact ⟨h.phase, h.memory, ⟨hbusy, hfatal, hdone, hcause, hinfo, hkind, ho hbytetime⟩,
      h.sequencer.idle rfl (h.status.idle hb) rfl rfl rfl, h.receive⟩
  | txbuf k v hb hk ht =>
    subst ht
    obtain ⟨htxwf, htxbelow, hrx⟩ := h.memory
    exact ⟨h.phase, ⟨memWrite_wf k v htxwf, memWrite_below v hk htxbelow, hrx⟩, h.status,
      h.sequencer.idle rfl (h.status.idle hb) rfl rfl rfl, h.receive⟩

theorem HostMove.inv {op : HostOp} (hm : HostMove op s t) (h : Inv s) : Inv t := by
  cases hm with
  | reset _ ht => rw [ht]; exact inv_blockReset s
  | port ht => rw [ht]; exact h.withHost t.host
  | write hw => exact hw.inv h

/-- Settles O59: each of the four kinds of step keeps the invariant. -/
theorem stepKeepsInvariant : Obligations.StepKeepsInvariant := by
  intro s t h hstep
  obtain ⟨-, ⟨op, -, hhost⟩ | ⟨-, -, rfl⟩ | ⟨w, e, -, hfetch, -, rfl⟩ | ⟨w, i, -, hfetch, hd, hexec⟩⟩ := step_cases hstep
  · exact (hostStep_move hhost).inv (h.withHost s.popHost.host)
  · exact h.withHost s.tick.host
  · obtain ⟨p, hp⟩ := fetch_eq_some.mp hfetch
    exact inv_raiseFatal (s := s.tick) (h.withHost s.tick.host) hp
  · obtain ⟨p, hp⟩ := fetch_eq_some.mp hfetch
    exact inv_exec (s := s.tick) (h.withHost s.tick.host) hp hd hexec

/-! ### States of the invariant go on -/

/-- An access that has an offset is answered (R60). -/
theorem hostStep_next {op : HostOp} (h : ∀ bits a v, op = .read bits a ∨ op = .write bits a v →
    (accessOffset s.params bits a).isSome = true) : ∃ t, hostStep op s = .next t := by
  cases op with
  | reset => exact ⟨_, rfl⟩
  | wait => exact ⟨_, rfl⟩
  | read bits a =>
    obtain ⟨off, hoff⟩ := Option.isSome_iff_exists.mp (h bits a 0 (.inl rfl))
    exact ⟨s.returnRead (s.targetRead (targetOf s.params off)), by simp only [hostStep, hoff]⟩
  | write bits a v =>
    obtain ⟨off, hoff⟩ := Option.isSome_iff_exists.mp (h bits a v (.inr rfl))
    exact ⟨s.targetWrite (targetOf s.params off) v, by simp only [hostStep, hoff]⟩

theorem blockStep_next (h : PhaseCoherent s) : ∃ t, blockStep s = .next t := by
  cases hp : s.seq.phase with
  | idle => exact ⟨s, by simp only [blockStep, State.fetch, hp]⟩
  | running w p =>
    cases hd : decode w with
    | error e => exact ⟨s.raiseFatal .illegal w, by simp only [blockStep, State.fetch, hp, hd]⟩
    | ok i =>
      have hbelongs : p.belongs i = true := by
        simp only [PhaseCoherent, phaseOk, hp, hd] at h
        exact h
      obtain ⟨t, ht⟩ := exec_next (wellFormed_of_decode hd) (pos_eq_some.mpr ⟨w, hp⟩) hbelongs
      exact ⟨t, by simp only [blockStep, State.fetch, hp, hd, ht]⟩

/-- Settles O60: each position of a command answers; the invariant says that the running position is one, and the host's
accesses have offsets by hypothesis. -/
theorem invariantStatesGoOn : Obligations.InvariantStatesGoOn := by
  refine ⟨fun i s p hwf hp hb => exec_next hwf hp hb, fun s h hw hacc => ?_⟩
  unfold SafeStep
  cases hh : s.hostTurn with
  | none =>
    rw [step_block hw hh]
    exact blockStep_next (s := s.tick) h.phase
  | some op =>
    rw [step_host hw hh]
    refine hostStep_next (s := s.popHost) fun bits a v hop => hacc bits a v ?_
    rw [hh]
    exact hop.imp (congrArg some) (congrArg some)

end

end Sys2Proof.Machine
end

section
/-! PROOFS. The host's accesses (10_state.md sections 2, 4 and 5, 30_encoding.md section 2): what a write to each
offset sets and nothing else, what a read of each offset returns, and the bits of STATUS with the interrupt level. -/

namespace Sys2Proof.Machine

open Sys2Proof.Config

/-! ### Words packed from fields -/

@[simp] theorem flagBit_false (i : Nat) : flagBit i false = 0 := rfl

@[simp] theorem flagBit_true (i : Nat) : flagBit i true = BitVec.twoPow 32 i := rfl

theorem getLsbD_flagBit {i j : Nat} (hi : i < 32) (b : Bool) : (flagBit i b).getLsbD j = (b && decide (i = j)) := by
  cases b with
  | false => exact BitVec.getLsbD_zero
  | true => rw [flagBit_true, BitVec.getLsbD_twoPow, decide_eq_true hi]

/-- A flag taken from bit `i` of a word is that bit in place. -/
theorem flagBit_getLsbD (v : Word) (i : Nat) : flagBit i (v.getLsbD i) = v &&& BitVec.twoPow 32 i :=
  (BitVec.and_twoPow v i).symm

/-- The low `n` bits of a word, the rest 0. -/
theorem setWidth_setWidth_eq_and {n : Nat} {m : Word} (hm : m = (BitVec.allOnes n).setWidth 32) (v : Word) :
    (v.setWidth n).setWidth 32 = v &&& m := by
  subst hm
  refine BitVec.eq_of_getLsbD_eq fun i hi => ?_
  rw [BitVec.getLsbD_and]
  simp only [BitVec.getLsbD_setWidth, BitVec.getLsbD_allOnes, hi, decide_true, Bool.true_and]
  exact Bool.and_comm ..

/-- A field above a flag's or a byte's place adds up. -/
theorem toNat_or_shiftLeft {x y : Nat} {i : Nat} (hx : x < 2 ^ i) : x ||| y <<< i = x + 2 ^ i * y := by
  rw [Nat.or_comm, ← Nat.shiftLeft_add_eq_or_of_lt hx, Nat.shiftLeft_eq, Nat.mul_comm, Nat.add_comm]

theorem toNat_or_flagBit {x : Word} {i : Nat} (hi : i < 32) (hx : x.toNat < 2 ^ i) (b : Bool) :
    (x ||| flagBit i b).toNat = x.toNat + 2 ^ i * b.toNat := by
  cases b with
  | false => simp
  | true =>
    have hpow : (BitVec.twoPow 32 i).toNat = 1 <<< i := by
      rw [BitVec.toNat_twoPow_of_lt hi, Nat.one_shiftLeft]
    rw [flagBit_true, BitVec.toNat_or, hpow, toNat_or_shiftLeft hx]
    rfl

theorem toNat_flagBit_zero (b : Bool) : (flagBit 0 b).toNat = b.toNat := by cases b <;> rfl

/-! ### Writes while BUSY = 0 -/

section

variable {s : State}

/-- A host write at a register's offset (R22). -/
theorem step_csrWrite {a v : Word} {off : Nat} (hw : s.params.wf = true) (hh : s.hostTurn = some (.write 32 a v))
    (ha : accessOffset s.params 32 a = some off) (r : Csr) (hr : off = r.offset) :
    step s = .next (s.popHost.csrWrite r v) := by
  subst hr
  rw [step_hostWrite hw hh ha, targetOf_offset]
  rfl

theorem writeOperand_free (hb : s.flags.busy = false) (r : Csr) (v : Word) :
    s.writeOperand r v = { s with operands := s.operands.write r v } := if_neg (Bool.eq_false_iff.mp hb)

theorem storedBytetime_eq (v : Word) : storedBytetime v = if v &&& 0xFFFF = 0 then 1 else v.setWidth 16 := by
  have hlow : v.extractLsb' 0 16 = v.setWidth 16 := (BitVec.setWidth_eq_extractLsb' (by decide)).symm
  have hzero : v.setWidth 16 = 0 ↔ v &&& 0xFFFF = 0 := by
    rw [← setWidth_setWidth_eq_and (n := 16) (m := 0xFFFF) (by decide)]
    constructor
    · intro h
      rw [h]
      rfl
    · intro h
      have hback := congrArg (BitVec.setWidth 16) h
      rwa [BitVec.setWidth_setWidth_of_le _ (by decide), BitVec.setWidth_eq] at hback
  simp only [storedBytetime, hlow, hzero]

/-- The registers that ignore a write (R22). -/
theorem csrWrite_readOnly {off : Nat}
    (ho : off ∈ [0x008, 0x00C, 0x010, 0x014, 0x01C, 0x028, 0x02C, 0x030, 0x044, 0x048, 0x04C]) :
    ∃ r : Csr, off = r.offset ∧ ∀ v, s.csrWrite r v = s := by
  simp only [List.mem_cons, List.not_mem_nil, or_false] at ho
  obtain rfl | rfl | rfl | rfl | rfl | rfl | rfl | rfl | rfl | rfl | rfl := ho
  · exact ⟨.err, rfl, fun _ => rfl⟩
  · exact ⟨.erraddr, rfl, fun _ => rfl⟩
  · exact ⟨.fcause, rfl, fun _ => rfl⟩
  · exact ⟨.finfo, rfl, fun _ => rfl⟩
  · exact ⟨.res, rfl, fun _ => rfl⟩
  · exact ⟨.rxlen, rfl, fun _ => rfl⟩
  · exact ⟨.rssi, rfl, fun _ => rfl⟩
  · exact ⟨.rssiraw, rfl, fun _ => rfl⟩
  · exact ⟨.glitchcnt, rfl, fun _ => rfl⟩
  · exact ⟨.param0, rfl, fun _ => rfl⟩
  · exact ⟨.param1, rfl, fun _ => rfl⟩

/-- Settles O44: each offset names its register, a writable one takes its bits and a read-only one ignores the write;
an operand reads back under the mask of its bits. -/
theorem operandReadback : Obligations.OperandReadback := by
  refine ⟨fun s a v off hw hb hh ha => ?_, fun s v hb => ?_⟩
  · have hcsr := step_csrWrite hw hh ha
    have hop : ∀ r, off = r.offset → s.popHost.csrWrite r v = s.popHost.writeOperand r v →
        step s = .next { s.popHost with operands := s.operands.write r v } := fun r hr he => by
      rw [hcsr r hr, he, writeOperand_free (s := s.popHost) hb]
      rfl
    have hlow : v.setWidth 16 = v.extractLsb' 0 16 := BitVec.setWidth_eq_extractLsb' (by decide)
    have hthresh : v.setWidth 6 = v.extractLsb' 0 6 := BitVec.setWidth_eq_extractLsb' (by decide)
    rw [← storedBytetime_eq, hlow, hthresh]
    refine ⟨fun h => hop .arg h rfl, fun h => hop .txlen h rfl, fun h => hop .timeout h rfl, fun h => hop .cfg h rfl,
      fun h => hop .bytetime h rfl, fun h => hop .pace h rfl, fun h => hcsr .ie h, fun h => hcsr .status h, fun h => ?_⟩
    obtain ⟨r, hr, hkeep⟩ := csrWrite_readOnly (s := s.popHost) h
    rw [hcsr r hr, hkeep]
  · have hlow : (v.setWidth 16).setWidth 32 = v &&& 0xFFFF := setWidth_setWidth_eq_and (by decide) v
    have hlow' : (v.extractLsb' 0 16).setWidth 32 = v &&& 0xFFFF := by
      rw [← BitVec.setWidth_eq_extractLsb' (by decide), hlow]
    have hcfg : (v.extractLsb' 0 6).setWidth 32 ||| flagBit 8 (v.getLsbD 8) = v &&& 0x13F := by
      have hsplit : (0x13F : Word) = 0x3F ||| BitVec.twoPow 32 8 := by decide
      rw [← BitVec.setWidth_eq_extractLsb' (by decide), setWidth_setWidth_eq_and (m := 0x3F) (by decide), flagBit_getLsbD,
        hsplit, BitVec.and_or_distrib_left]
    have hie : flagBit 0 (v.getLsbD 0) ||| flagBit 1 (v.getLsbD 1) = v &&& 3 := by
      have hsplit : (3 : Word) = BitVec.twoPow 32 0 ||| BitVec.twoPow 32 1 := by decide
      rw [flagBit_getLsbD, flagBit_getLsbD, hsplit, BitVec.and_or_distrib_left]
    have hbytetime : (storedBytetime v).setWidth 32 = if v &&& 0xFFFF = 0 then 1 else v &&& 0xFFFF := by
      rw [storedBytetime_eq]
      split
      · decide
      · exact hlow
    simp only [State.csrWrite, writeOperand_free hb, Operands.write, State.csrRead, State.cfgWord, State.ieWord,
      writeIe_ie_doneIe, writeIe_ie_fatalIe]
    exact ⟨trivial, trivial, hlow', hcfg, hlow', hbytetime, fun _ => hie⟩

/-! ### Reads -/

theorem accessOffset_of_window {p : Params} {a : Word} (h1 : p.base.toNat ≤ a.toNat)
    (h2 : a.toNat < p.base.toNat + 0x4000) (h3 : a.toNat % 4 = 0) :
    accessOffset p 32 a = some (a.toNat - p.base.toNat) := if_pos ⟨rfl, h1, h2, h3⟩

theorem windowRead_offset (r : Csr) : s.windowRead r.offset = s.csrRead r := by
  rw [State.windowRead, targetOf_offset]
  rfl

theorem cfgWord_toNat : s.cfgWord.toNat = s.operands.thresh.toNat + 256 * s.operands.idle.toNat := by
  have hthresh : (s.operands.thresh.setWidth 32).toNat = s.operands.thresh.toNat :=
    BitVec.toNat_setWidth_of_le (by decide)
  have hlt := s.operands.thresh.isLt
  rw [State.cfgWord, toNat_or_flagBit (by decide) (by omega), hthresh]
  rfl

theorem ieWord_toNat : s.ieWord.toNat = s.ie.doneIe.toNat + 2 * s.ie.fatalIe.toNat := by
  have hlt := s.ie.doneIe.toNat_le
  rw [State.ieWord, toNat_or_flagBit (by decide) (by rw [toNat_flagBit_zero]; omega), toNat_flagBit_zero]
  rfl

theorem trunc8_setWidth_toNat {n : Nat} (h : n < 256) : ((trunc8 n).setWidth 32).toNat = n := by
  rw [BitVec.toNat_setWidth_of_le (by decide)]
  exact Nat.mod_eq_of_lt h

theorem param0Word_toNat {p : Params} (hd : p.fifoDepth < 256) (hm : p.maxPacket < 256) :
    (param0Word p).toNat = p.fifoDepth + 256 * p.maxPacket + 65536 * p.hasModeReady.toNat := by
  have hbytes : ((trunc8 p.fifoDepth).setWidth 32 ||| ((trunc8 p.maxPacket).setWidth 32 <<< 8) : Word).toNat
      = p.fifoDepth + 256 * p.maxPacket := by
    have hshift : ((trunc8 p.maxPacket).setWidth 32 <<< 8 : Word).toNat = p.maxPacket <<< 8 := by
      rw [BitVec.toNat_shiftLeft, trunc8_setWidth_toNat hm, Nat.shiftLeft_eq, Nat.mod_eq_of_lt (by omega)]
    rw [BitVec.toNat_or, trunc8_setWidth_toNat hd, hshift, toNat_or_shiftLeft hd]
    rfl
  rw [param0Word, toNat_or_flagBit (by decide) (by omega), hbytes]
  rfl

theorem param1Word_toNat {p : Params} (h : p.rxbufSize ≤ 1024) : (param1Word p).toNat = p.rxbufSize := by
  rw [param1Word, BitVec.toNat_setWidth_of_le (by decide)]
  exact Nat.mod_eq_of_lt (by omega)

theorem setWidth32_toNat {n : Nat} (h : n ≤ 32) (x : BitVec n) : (x.setWidth 32).toNat = x.toNat :=
  BitVec.toNat_setWidth_of_le h

theorem windowRead_txbuf {k : Nat} (hk : k < s.params.maxPacket) (hp : s.params.maxPacket ≤ 1024) :
    s.windowRead (0x1000 + 4 * k) = (memRead s.txbuf k).setWidth 32 := by
  rw [State.windowRead, targetOf_txbuf hk hp]
  rfl

theorem windowRead_rxbuf {k : Nat} (hk : k < s.params.rxbufSize) (hp : s.params.rxbufSize ≤ 1024) :
    s.windowRead (0x2000 + 4 * k) = (memRead s.rxbuf k).setWidth 32 := by
  rw [State.windowRead, targetOf_rxbuf hk hp]
  rfl

/-- Settles O48: the host's turn returns the value at the offset; each register reads the word packed from its state. -/
theorem hostReadHasNoSideEffect : Obligations.HostReadHasNoSideEffect := by
  refine ⟨fun s a hw h1 h2 h3 hh => ⟨_, step_hostRead hw hh (accessOffset_of_window h1 h2 h3), rfl⟩, fun s hw => ?_⟩
  obtain ⟨hdepth, ⟨-, hmax⟩, ⟨-, hrx⟩⟩ := params_bounds hw
  have hread : ∀ r : Csr, s.windowRead r.offset = s.csrRead r := windowRead_offset
  have hwide : ∀ (r : Csr) {n : Nat} (x : BitVec n), n ≤ 32 → s.csrRead r = x.setWidth 32 →
      (s.windowRead r.offset).toNat = x.toNat := fun r n x hn hx => by
    rw [hread r, hx, setWidth32_toNat hn]
  refine ⟨hread .cmd, hread .status, (hread .err).trans ?_, ?_, (hread .fcause).trans ?_, hread .finfo, hread .arg,
    hread .res, hwide .txlen s.operands.txlen (by decide) rfl, hread .timeout, hread .rxlen, hread .rssi,
    hwide .rssiraw s.rx.rssiRaw (by decide) rfl, ?_, hwide .bytetime s.operands.bytetime (by decide) rfl,
    hwide .pace s.operands.pace (by decide) rfl, ?_, hread .glitchcnt, ?_, ?_, fun k hk => ?_, fun k hk => ?_⟩
  · rw [State.csrRead]
    cases s.err.slot <;> rfl
  · rw [show (0x00C : Nat) = Csr.erraddr.offset from rfl, hread, State.csrRead, errAddrWord_toNat]
    cases s.err.kind with
    | none => rfl
    | some k => cases k <;> rfl
  · rw [State.csrRead, State.fcauseWord]
    cases s.fatal.cause with
    | none => rfl
    | some c => cases c <;> rfl
  · exact (congrArg BitVec.toNat (hread .cfg)).trans cfgWord_toNat
  · exact (congrArg BitVec.toNat (hread .ie)).trans ieWord_toNat
  · exact (congrArg BitVec.toNat (hread .param0)).trans (param0Word_toNat (by omega) (by omega))
  · exact (congrArg BitVec.toNat (hread .param1)).trans (param1Word_toNat hrx)
  · exact windowRead_txbuf hk (by omega)
  · exact windowRead_rxbuf hk hrx

/-! ### A write to CMD (R96) -/

theorem issue_dropped (h : s.fatal.fatal = true ∨ s.flags.busy = true) (w : Word) : s.issue w = s.dropCommand := by
  obtain hf | hb := h
  · exact if_pos hf
  · exact issue_busy hb w

theorem issue_accepted (hf : s.fatal.fatal = false) (hb : s.flags.busy = false) (w : Word) : s.issue w = s.accept w :=
  (if_neg (Bool.eq_false_iff.mp hf)).trans (if_neg (Bool.eq_false_iff.mp hb))

/-- Settles O49: the offset 0 is CMD, whose write is dropped or accepted by FATAL and BUSY. -/
theorem commandIssue : Obligations.CommandIssue := by
  intro s a w hw ha hh
  have hstep := step_csrWrite hw hh ha .cmd rfl
  refine ⟨fun hbusy => ?_, fun hf hb => ?_⟩
  · rw [hstep, State.csrWrite, issue_dropped (s := s.popHost) hbusy]
    rfl
  · rw [State.csrWrite, issue_accepted (s := s.popHost) hf hb] at hstep
    exact ⟨_, hstep, rfl, rfl, rfl⟩

/-! ### The buffers (R45) -/

theorem writeTx_free (hb : s.flags.busy = false) (k : Nat) (v : Word) :
    s.writeTx k v = { s with txbuf := memWrite s.txbuf k (v.extractLsb' 0 8) } := if_neg (Bool.eq_false_iff.mp hb)

/-- Settles O50: the offset names the entry; a free block stores the byte there, and RXBUF takes no write. -/
theorem bufferHostAccess : Obligations.BufferHostAccess := by
  intro s i a v hw
  obtain ⟨-, ⟨-, hmax⟩, ⟨-, hrx⟩⟩ := params_bounds hw
  refine ⟨fun hi hb hwf ha hh => ?_, fun hi ha => ?_⟩
  · have htarget := targetOf_txbuf hi (hmax.trans (by decide))
    have hbyte : v.extractLsb' 0 8 = v.setWidth 8 := (BitVec.setWidth_eq_extractLsb' (by decide)).symm
    have hstep := step_hostWrite hw hh ha
    rw [htarget, State.targetWrite, writeTx_free (s := s.popHost) hb, hbyte] at hstep
    have hread : ∀ j, memRead (memWrite s.txbuf i (v.setWidth 8)) j = if j = i then v.setWidth 8 else memRead s.txbuf j :=
      fun j => memRead_memWrite i j _ hwf
    refine ⟨_, hstep, rfl, hread, ?_⟩
    rw [htarget, State.targetRead]
    have hself := hread i
    rw [if_pos rfl] at hself
    exact (congrArg (BitVec.setWidth 32) hself).trans (setWidth_setWidth_eq_and (by decide) v)
  · have htarget := targetOf_rxbuf hi hrx
    rw [htarget]
    refine ⟨fun hh => ?_, rfl⟩
    rw [step_hostWrite hw hh ha, htarget]
    rfl

/-! ### STATUS and the interrupt (R24, R216) -/

/-- Each bit of STATUS reads the flag of its place. -/
theorem statusWord_getLsbD : s.statusWord.getLsbD 0 = s.flags.busy ∧ s.statusWord.getLsbD 1 = s.flags.done
    ∧ s.statusWord.getLsbD 2 = s.fatal.fatal ∧ s.statusWord.getLsbD 3 = s.errLatched
    ∧ s.statusWord.getLsbD 4 = s.rx.pkt ∧ s.statusWord.getLsbD 5 = s.rx.glitch ∧ s.statusWord.getLsbD 6 = s.enc.range
    ∧ s.statusWord.getLsbD 7 = s.rx.rxovf ∧ s.statusWord.getLsbD 8 = s.rx.rxtmo
    ∧ s.statusWord.getLsbD 9 = s.flags.xerr ∧ s.statusWord.getLsbD 10 = s.flags.cmdlost := by
  simp [State.statusWord, getLsbD_flagBit, -BitVec.getLsbD_eq_getElem]

theorem ieWord_getLsbD : s.ieWord.getLsbD 0 = s.ie.doneIe ∧ s.ieWord.getLsbD 1 = s.ie.fatalIe := by
  simp [State.ieWord, getLsbD_flagBit, -BitVec.getLsbD_eq_getElem]

theorem errLatched_iff_csrRead : s.errLatched = true ↔ s.csrRead .err ≠ 0 := by
  rw [State.errLatched, State.csrRead]
  cases s.err.slot <;> decide

/-- Settles O51: the bits of STATUS and IE one by one, and the level made of four of them. -/
theorem statusBitsAndIrqLevel : Obligations.StatusBitsAndIrqLevel := by
  intro s
  obtain ⟨h0, h1, h2, h3, hrest⟩ := statusWord_getLsbD (s := s)
  obtain ⟨hdone, hfatal⟩ := ieWord_getLsbD (s := s)
  have herrl : s.statusWord.getLsbD 3 = true ↔ s.csrRead .err ≠ 0 := by rw [h3, errLatched_iff_csrRead]
  refine ⟨⟨h0, h1, h2, herrl, hrest⟩, ?_, fun v hv => ?_⟩
  · rw [State.csrRead, State.csrRead, h1, h2, hdone, hfatal]
    rfl
  · rw [State.csrWrite, irq, writeStatus_flags_done, hv]
    simp

end

end Sys2Proof.Machine
end

section
/-! PROOFS. Mode transitions (41_mode_and_register_commands.md sections 1 to 3, R140 to R143): the mode field of a
byte, and the run of any command's `SetMode`, followed one answer at a time. -/

namespace Sys2Proof.Machine

open Sys2Proof.Config

/-! ### The mode field (R140) -/

theorem modeField_of_ok {p : RadioProfile} (h : p.modeFieldOk = true) : ∃ sh < 6, p.mMode = (7 : Byte) <<< sh := by
  obtain ⟨sh, hsh, hm⟩ := List.any_eq_true.mp h
  exact ⟨sh, List.mem_range.mp hsh, beq_iff_eq.mp hm⟩

/-- The shift is the place of the field. -/
theorem modeShift_of_field {p : RadioProfile} {sh : Nat} (hsh : sh < 6) (hm : p.mMode = (7 : Byte) <<< sh) :
    modeShift p = sh := by
  have hall : ∀ sh < 6, ((List.range 8).find? fun i => ((7 : Byte) <<< sh).getLsbD i).getD 0 = sh := by decide
  rw [modeShift, hm]
  exact hall sh hsh

/-- A field written under a mask and read under it, and the rest. -/
theorem masked_write (v x mask : Byte) :
    ((v &&& ~~~mask) ||| (x &&& mask)) &&& ~~~mask = v &&& ~~~mask
      ∧ ((v &&& ~~~mask) ||| (x &&& mask)) &&& mask = x &&& mask := by
  have hbool : ∀ a c k : Bool, (((a && !k) || (c && k)) && !k) = (a && !k)
      ∧ (((a && !k) || (c && k)) && k) = (c && k) := by
    decide
  constructor
  · refine BitVec.eq_of_getLsbD_eq fun j hj => ?_
    simp only [BitVec.getLsbD_and, BitVec.getLsbD_or, BitVec.getLsbD_not, hj, decide_true, Bool.true_and]
    exact (hbool _ _ _).1
  · refine BitVec.eq_of_getLsbD_eq fun j hj => ?_
    simp only [BitVec.getLsbD_and, BitVec.getLsbD_or, BitVec.getLsbD_not, hj, decide_true, Bool.true_and]
    exact (hbool _ _ _).2

/-- Settles O19: the mask parts the byte, and a 3-bit mode fits its field at any of the six places. -/
theorem withModeKeepsOtherBits : Obligations.WithModeKeepsOtherBits := by
  intro p v m h
  obtain ⟨sh, hsh, hm⟩ := modeField_of_ok h
  obtain ⟨hkeep, hfield⟩ := masked_write v (m.setWidth 8 <<< modeShift p) p.mMode
  refine ⟨hkeep, ?_⟩
  have hall : ∀ sh < 6, ∀ m : BitVec 3, ((m.setWidth 8 <<< sh) &&& ((7 : Byte) <<< sh)) >>> sh = m.setWidth 8 := by
    decide
  rw [modeOf, withMode, hfield, modeShift_of_field hsh hm, hm]
  exact hall sh hsh m

/-! ### Steps that follow one another -/

section

variable {i : Instr} {s t u : State} {p : Pos}

theorem QuietStep.trans (h : QuietStep s t) (h' : QuietStep t u) : QuietStep s u where
  params := h'.params.trans h.params
  flags := h'.flags.trans h.flags
  fatal := h'.fatal.trans h.fatal
  operands := h'.operands.trans h.operands
  ie := h'.ie.trans h.ie
  enc := h'.enc.trans h.enc
  rx := h'.rx.trans h.rx
  txbuf := h'.txbuf.trans h.txbuf
  host := h'.host.trans h.host
  phase := by
    obtain ⟨q, hq⟩ := h.phase
    obtain ⟨q', hq'⟩ := h'.phase
    refine ⟨q', hq'.trans ?_⟩
    rw [hq]
    cases s.seq.phase <;> rfl
  glitchCnt := h'.glitchCnt.trans h.glitchCnt
  rxbuf := h'.rxbuf.trans h.rxbuf

section

variable {txns : List Txn} {rest : List RadioAnswer} {b : Byte}

theorem AnsweredOk.goto (h : AnsweredOk s t txns rest) (p : Pos) : AnsweredOk s (t.goto p) txns rest :=
  ⟨h.port, h.err, h.xerr, h.clear⟩

theorem AnsweredOk.nextAnswer {x : RadioAnswer} (h : AnsweredOk s t txns (x :: rest)) : t.nextAnswer = x := by
  obtain ⟨-, hans⟩ := h.port
  exact nextAnswer_cons hans

theorem AnsweredOk.transact {x : Txn} {a : RadioAnswer} (h : AnsweredOk s t txns (a :: rest)) :
    AnsweredOk s (t.transact x) (x :: txns) rest := by
  obtain ⟨⟨hlog, hans⟩, herr, hxerr, hclear⟩ := h
  exact ⟨⟨congrArg (_ :: ·) hlog, congrArg List.tail hans⟩, herr, hxerr, hclear⟩

theorem AnsweredOk.okRead {a : RegAddr} (h : AnsweredOk s t txns (.ok b :: rest)) :
    AnsweredOk s (t.okRead a b) (.read a (.ok b) :: txns) rest := h.transact

end

/-! ### A `SetMode` under way -/

/-- The state in which the first step of the call `c` acts: `s`, with the frame loaded at the start of a send (R175,
R176). -/
def modeStart (c : ModeCall) (s : State) : State :=
  if s.pos = some .start ∧ c = .sendStandby then s.loadFrame else s

theorem modeStart_cases (c : ModeCall) (s : State) :
    (modeStart c s = s ∧ ¬(s.pos = some .start ∧ c = .sendStandby))
      ∨ (modeStart c s = s.loadFrame ∧ s.pos = some .start ∧ c = .sendStandby) := by
  unfold modeStart
  split
  case isTrue h => exact .inr ⟨rfl, h⟩
  case isFalse h => exact .inl ⟨rfl, h⟩

/-- Loading the frame changes hidden state alone. -/
theorem modeStart_eq (c : ModeCall) (s : State) :
    modeStart c s = { s with seq := (modeStart c s).seq } ∧ (modeStart c s).seq.xerr = s.seq.xerr
      ∧ (modeStart c s).seq.phase = s.seq.phase := by
  obtain ⟨h, -⟩ | ⟨h, -⟩ := modeStart_cases c s
  · rw [h]; exact ⟨rfl, rfl, rfl⟩
  · rw [h]; exact ⟨rfl, rfl, rfl⟩

theorem modeStart_pos (c : ModeCall) (s : State) : (modeStart c s).pos = s.pos :=
  pos_of_seq (modeStart_eq c s).2.2

/-- The first step of a call is the first step of `SetMode`, at its own position or at the command's start. -/
theorem BeginsMode.exec_eq {c : ModeCall} {m : BitVec 3} (hb : BeginsMode c s) (hc : CallsMode i c m s) :
    exec i s = .next (modeEnter m c (modeStart c s)) := by
  obtain hp | ⟨hp, rfl | ⟨rfl, he, hl⟩⟩ := hb
  · have hs : modeStart c s = s := if_neg fun ⟨h, _⟩ => by
      rw [hp] at h
      cases h
    rw [hs]
    exact hc.exec_eq hp
  · have hs : modeStart .command s = s := if_neg fun ⟨_, h⟩ => nomatch h
    obtain ⟨rfl, hm⟩ := hc
    rw [hs]
    exact exec_setmode_start hm hp
  · have hs : modeStart .sendStandby s = s.loadFrame := if_pos ⟨hp, rfl⟩
    have hstart : ∀ gated, sendStart gated s = sendBodyStart s := fun gated =>
      (if_neg (Nat.not_lt.mpr hl)).trans (gate_clear he ..)
    obtain ⟨rfl | rfl, rfl⟩ := hc
    · rw [hs, exec_send_start hp, hstart]
      rfl
    · rw [hs, exec_sendrecv_start hp, hstart]
      rfl

/-- A `SetMode` begun in `s` with its ERR cleared has come to `t`, the radio answering every transaction. -/
structure ModeRun (s t : State) (txns : List Txn) (rest : List RadioAnswer) : Prop where
  answered : AnsweredOk s.clearErr t txns rest
  quiet : QuietStep s t
  seq : ModeSeq s t

section

variable {m : BitVec 3} {c : ModeCall} {v b : Byte} {txns : List Txn} {rest : List RadioAnswer}

theorem ModeRun.enter (ha : s.radio.answers = .ok v :: rest) :
    ModeRun s (modeEnter m c s) [.read s.params.profile.aOpmode (.ok v)] rest := by
  refine ⟨?_, modeEnter_quiet m c s, modeEnter_modeSeq m c s⟩
  rw [modeEnter_ok (nextAnswer_cons ha)]
  have h := (AnsweredOk.refl (s := s.clearErr) rfl ha).okRead (a := s.params.profile.aOpmode)
  exact ⟨h.port, h.err, h.xerr, h.clear⟩

theorem ModeRun.write (h : ModeRun s t txns (.ok b :: rest)) (m : BitVec 3) (c : ModeCall) :
    ModeRun s (modeStep m c .write t)
      (.write s.params.profile.aOpmode (withMode s.params.profile t.seq.opmode m) (.ok b) :: txns) rest := by
  refine ⟨?_, h.quiet.trans (modeStep_quiet m c .write t), h.seq.trans (modeStep_modeSeq m c .write t)⟩
  rw [modeStep, modeWrite, rwrite_ok h.answered.clear h.answered.nextAnswer, h.quiet.params]
  exact h.answered.transact.goto _

theorem ModeRun.poll (h : ModeRun s t txns (.ok b :: rest)) (m : BitVec 3) (c : ModeCall) :
    ModeRun s (modeStep m c .poll t) (.read s.params.profile.aOpmode (.ok b) :: txns) rest := by
  refine ⟨?_, h.quiet.trans (modeStep_quiet m c .poll t), h.seq.trans (modeStep_modeSeq m c .poll t)⟩
  rw [modeStep, modePoll_ok h.answered.clear h.answered.nextAnswer, h.quiet.params]
  exact h.answered.okRead.goto _

theorem ModeRun.ready (h : ModeRun s t txns (.ok b :: rest)) (m : BitVec 3) (c : ModeCall) :
    ModeRun s (modeStep m c .ready t) (.read s.params.profile.aIrqFlags1 (.ok b) :: txns) rest := by
  refine ⟨?_, h.quiet.trans (modeStep_quiet m c .ready t), h.seq.trans (modeStep_modeSeq m c .ready t)⟩
  rw [modeStep, modeReady_ok h.answered.clear h.answered.nextAnswer, h.quiet.params]
  exact h.answered.okRead.goto _

/-! ### Where each step goes -/

theorem modeEnter_ok_pos (hp : s.pos = some p) (ha : s.radio.answers = .ok v :: rest) : (modeEnter m c s).pos
    = some (if modeIs s.params.profile v m then modeReturn c else .mode c .write) := by
  rw [modeEnter_ok (nextAnswer_cons ha)]
  exact pos_goto_of_running (s := (s.clearErr.okRead s.params.profile.aOpmode v).keepOpmode v) hp

theorem modeEnter_ok_opmode (ha : s.radio.answers = .ok v :: rest) : (modeEnter m c s).seq.opmode = v := by
  rw [modeEnter_ok (nextAnswer_cons ha)]
  rfl

theorem ModeRun.poll_pos (h : ModeRun s t txns (.ok b :: rest)) (hp : t.pos = some p) : (modeStep m c .poll t).pos
    = some (if modeIs s.params.profile b m then (if s.params.hasModeReady then .mode c .ready else modeReturn c)
      else .mode c .poll) := by
  rw [modeStep, modePoll_ok h.answered.clear h.answered.nextAnswer, (okRead_port _ b t).pos_goto hp, h.quiet.params]

theorem ModeRun.ready_pos (h : ModeRun s t txns (.ok b :: rest)) (hp : t.pos = some p) : (modeStep m c .ready t).pos
    = some (if flagSet b s.params.profile.mModeReady then modeReturn c else .mode c .poll) := by
  rw [modeStep, modeReady_ok h.answered.clear h.answered.nextAnswer, (okRead_port _ b t).pos_goto hp, h.quiet.params]

theorem execN_one (h : exec i s = .next t) : execN i 1 s = .next t := execN_succ h 0

/-- The call in `s` is the same call in `t`. -/
theorem ModeRun.calls (h : ModeRun s t txns rest) (hc : CallsMode i c m s) : CallsMode i c m t :=
  hc.of_operands h.quiet.operands

theorem ModeRun.exec_eq {q : ModeStep} (h : ModeRun s t txns rest) (hc : CallsMode i c m s)
    (hp : t.pos = some (.mode c q)) : exec i t = .next (modeStep m c q t) := (h.calls hc).exec_eq hp

/-! ### The return -/

theorem ModeRun.portRan (h : ModeRun (modeStart c s) t txns rest) : PortRan s t txns rest := by
  obtain ⟨hs, -⟩ := modeStart_eq c s
  have hport := h.answered.port
  rw [hs] at hport
  exact hport

/-- A `SetMode` whose run has come to its return has returned. -/
theorem ModeRun.returned (h : ModeRun (modeStart c s) t txns rest) (hp : t.pos = some (modeReturn c)) :
    ModeReturned c s t := by
  obtain ⟨hs, hxerr, -⟩ := modeStart_eq c s
  obtain ⟨⟨-, herr, hx, -⟩, hquiet, hseq⟩ := h
  have herr' : (modeStart c s).err = s.err := by rw [hs]
  have hframe : DeviceFrame s (modeStart c s) := by
    rw [hs]
    exact ⟨rfl, ⟨rfl, rfl, rfl, rfl, fun _ => rfl, rfl⟩, rfl, rfl, fun _ => rfl⟩
  refine ⟨hp, ?_, hx.trans hxerr, hquiet.flags.trans (by rw [hs]), hquiet.enc.trans (by rw [hs]),
    hframe.trans hquiet.deviceFrame, fun hpos => ?_, fun hpos hcall => ?_⟩
  · rw [herr, State.clearErr, herr']
  · obtain ⟨hsame, -⟩ | ⟨-, hstart, -⟩ := modeStart_cases c s
    · rw [hsame] at hseq hx
      rw [hseq, hx]
      rfl
    · rw [hpos] at hstart
      cases hstart
  · have hload : modeStart c s = s.loadFrame := if_pos ⟨hpos, hcall⟩
    rw [hload] at hseq
    rw [hseq]
    exact ⟨rfl, rfl⟩

/-- SETMODE, returned from its `SetMode`, completes. -/
theorem setmode_completes {n : Nat} (hc : CallsMode i .command m s) (hrun : execN i n s = .next t)
    (hport : PortRan s t txns rest) (h : ModeReturned .command s t) :
    ∃ u, execN i (n + 1) s = .next u ∧ PortRan s u txns rest ∧ u.err = { s.err with slot := .none }
      ∧ Completed s.seq.xerr u ∧ u.enc = s.enc ∧ DeviceFrame s u := by
  obtain ⟨rfl, hm⟩ := hc
  obtain ⟨hpos, herr, hxerr, -, henc, hframe, -⟩ := h
  refine ⟨t.completeDevice, ?_, hport, herr, ?_, henc, hframe.trans (deviceFrame_completeDevice t)⟩
  · rw [execN_append 1 hrun]
    exact execN_one (exec_setmode_finish hm hpos)
  · rw [← hxerr]
    exact completed_completeDevice t

/-- What O20 to O22 say of a call that returns after `n` steps with the transactions `txns`. -/
theorem modeRun_settles {n : Nat} (hc : CallsMode i c m s)
    (h : ∃ t, execN i n s = .next t ∧ ModeRun (modeStart c s) t txns rest ∧ t.pos = some (modeReturn c)) :
    (∃ t, execN i n s = .next t ∧ PortRan s t txns rest ∧ ModeReturned c s t)
      ∧ (c = .command → ∃ t, execN i (n + 1) s = .next t ∧ PortRan s t txns rest
        ∧ t.err = { s.err with slot := .none } ∧ Completed s.seq.xerr t ∧ t.enc = s.enc ∧ DeviceFrame s t) := by
  obtain ⟨t, hrun, hmode, hp⟩ := h
  refine ⟨⟨t, hrun, hmode.portRan, hmode.returned hp⟩, ?_⟩
  rintro rfl
  exact setmode_completes hc hrun hmode.portRan (hmode.returned hp)

/-! ### The run of a call -/

theorem modeWrite_pos (hp : t.pos = some p) : (modeStep m c .write t).pos = some (.mode c .poll) :=
  (rwrite_port _ _ t).pos_goto hp

theorem pos_of_beginsMode (hb : BeginsMode c s) : ∃ p, (modeStart c s).pos = some p := by
  rw [modeStart_pos]
  obtain hp | ⟨hp, -⟩ := hb
  · exact ⟨_, hp⟩
  · exact ⟨_, hp⟩

theorem modeStart_params (c : ModeCall) (s : State) : (modeStart c s).params = s.params := by rw [(modeStart_eq c s).1]

theorem modeStart_radio (c : ModeCall) (s : State) : (modeStart c s).radio = s.radio := by rw [(modeStart_eq c s).1]

theorem CallsMode.modeStart (hc : CallsMode i c m s) : CallsMode i c m (modeStart c s) :=
  hc.of_operands (by rw [(modeStart_eq c s).1])

/-- The first step of a call: one read, then the return or the write (R141). -/
theorem begin_run (hb : BeginsMode c s) (hc : CallsMode i c m s) (ha : s.radio.answers = .ok v :: rest) :
    ∃ t, exec i s = .next t ∧ ModeRun (modeStart c s) t [.read s.params.profile.aOpmode (.ok v)] rest
      ∧ t.seq.opmode = v
      ∧ t.pos = some (if modeIs s.params.profile v m then modeReturn c else .mode c .write) := by
  rw [← modeStart_radio c s] at ha
  rw [← modeStart_params c s]
  obtain ⟨p, hp⟩ := pos_of_beginsMode hb
  exact ⟨_, hb.exec_eq hc, .enter ha, modeEnter_ok_opmode ha, modeEnter_ok_pos hp ha⟩

/-- Settles O20: the first read already reports the target. -/
theorem setmodeAlreadyInMode : Obligations.SetmodeAlreadyInMode := by
  intro s i c m v rest hc hb ha hv
  obtain ⟨t, hstep, hrun, -, hp⟩ := begin_run hb hc ha
  rw [if_pos hv] at hp
  refine ⟨⟨t, hstep, hrun.portRan, hrun.returned hp⟩, ?_⟩
  rintro rfl
  exact setmode_completes hc (execN_one hstep) hrun.portRan (hrun.returned hp)

/-- From another mode, the first two steps read the mode and write its bits; the poll is next (R141). -/
theorem transition_run {w : Byte} (hb : BeginsMode c s) (hc : CallsMode i c m s)
    (ha : s.radio.answers = .ok v :: .ok w :: rest) (hv : modeIs s.params.profile v m = false) :
    ∃ t, execN i 2 s = .next t ∧ ModeRun (modeStart c s) t
        [.write s.params.profile.aOpmode (withMode s.params.profile v m) (.ok w),
         .read s.params.profile.aOpmode (.ok v)] rest
      ∧ t.pos = some (.mode c .poll) := by
  obtain ⟨t, hstep, hrun, hv', hp⟩ := begin_run hb hc ha
  rw [hv, if_neg Bool.false_ne_true] at hp
  have hwrite := hrun.write m c
  rw [hv', modeStart_params] at hwrite
  refine ⟨_, ?_, hwrite, modeWrite_pos hp⟩
  rw [execN_succ hstep]
  exact execN_one (hrun.exec_eq hc.modeStart hp)

/-- The poll goes round once for each answer that is another mode. -/
theorem ModeRun.polls (hc : CallsMode i c m s) (waits : List Byte)
    (h : ModeRun s t txns (waits.map RadioAnswer.ok ++ rest)) (hp : t.pos = some (.mode c .poll))
    (hw : ∀ x ∈ waits, modeIs s.params.profile x m = false) :
    ∃ u, execN i waits.length t = .next u
      ∧ ModeRun s u ((waits.reverse.map fun x => Txn.read s.params.profile.aOpmode (.ok x)) ++ txns) rest
      ∧ u.pos = some (.mode c .poll) := by
  induction waits generalizing t txns with
  | nil => exact ⟨t, rfl, h, hp⟩
  | cons x waits ih =>
    have hx := hw x List.mem_cons_self
    have hp' := h.poll_pos (m := m) (c := c) hp
    rw [hx, if_neg Bool.false_ne_true] at hp'
    obtain ⟨u, hrun, hu, hpu⟩ := ih (h.poll m c) hp' fun y hy => hw y (List.mem_cons_of_mem x hy)
    refine ⟨u, ?_, ?_, hpu⟩
    · rw [List.length_cons, execN_succ (h.exec_eq hc hp)]
      exact hrun
    · simpa using hu

/-- Settles O21: the read and the write, then the poll, one read for each answer. -/
theorem setmodeTransition : Obligations.SetmodeTransition := by
  intro s i c m v w r waits rest txns hc hb hready ha hv hw hr htxns
  refine modeRun_settles hc ?_
  obtain ⟨t, hrun, hmode, hp⟩ := transition_run hb hc ha hv
  have hparams := modeStart_params c s
  obtain ⟨u, hpolls, hmode', hp'⟩ := hmode.polls hc.modeStart waits hp (by rwa [hparams])
  have hlast := hmode'.poll_pos (m := m) (c := c) hp'
  rw [hparams, hr, if_pos rfl, hready, if_neg Bool.false_ne_true] at hlast
  have hmode'' := hmode'.poll m c
  rw [hparams] at hmode''
  refine ⟨_, ?_, htxns ▸ hmode'', hlast⟩
  rw [show waits.length + 3 = 2 + (waits.length + 1) by omega, execN_append _ hrun, execN_append _ hpolls]
  exact execN_one (hmode'.exec_eq hc.modeStart hp')

/-- One round of the poll that does not end it, one step for each of its answers. -/
theorem ModeRun.round (hc : CallsMode i c m s) (hready : s.params.hasModeReady = true) (x : PollRound)
    (h : ModeRun s t txns (x.answers ++ rest)) (hp : t.pos = some (.mode c .poll))
    (hx : x.holds s.params.profile m = true) :
    ∃ u, execN i x.answers.length t = .next u ∧ ModeRun s u (x.txns s.params.profile ++ txns) rest
      ∧ u.pos = some (.mode c .poll) := by
  cases x with
  | other y =>
    have hy : modeIs s.params.profile y m = false := by simpa [PollRound.holds] using hx
    have hp' := h.poll_pos (m := m) (c := c) hp
    rw [hy, if_neg Bool.false_ne_true] at hp'
    exact ⟨_, execN_one (h.exec_eq hc hp), h.poll m c, hp'⟩
  | notReady r f =>
    obtain ⟨hr, hf⟩ : modeIs s.params.profile r m = true ∧ flagSet f s.params.profile.mModeReady = false := by
      simpa [PollRound.holds] using hx
    have hp' := h.poll_pos (m := m) (c := c) hp
    rw [hr, if_pos rfl, hready, if_pos rfl] at hp'
    have hpoll := h.poll m c
    have hp'' := hpoll.ready_pos (c := c) (m := m) hp'
    rw [hf, if_neg Bool.false_ne_true] at hp''
    refine ⟨_, ?_, hpoll.ready m c, hp''⟩
    rw [show (PollRound.notReady r f).answers.length = 1 + 1 from rfl, execN_succ (h.exec_eq hc hp)]
    exact execN_one (hpoll.exec_eq hc hp')

theorem ModeRun.rounds (hc : CallsMode i c m s) (hready : s.params.hasModeReady = true) (rounds : List PollRound)
    (h : ModeRun s t txns (rounds.flatMap PollRound.answers ++ rest)) (hp : t.pos = some (.mode c .poll))
    (hx : ∀ x ∈ rounds, x.holds s.params.profile m = true) :
    ∃ u, execN i (rounds.flatMap PollRound.answers).length t = .next u
      ∧ ModeRun s u (rounds.reverse.flatMap (PollRound.txns s.params.profile) ++ txns) rest
      ∧ u.pos = some (.mode c .poll) := by
  induction rounds generalizing t txns with
  | nil => exact ⟨t, rfl, h, hp⟩
  | cons x rounds ih =>
    rw [List.flatMap_cons, List.append_assoc] at h
    obtain ⟨t', hround, hmode, hp'⟩ := h.round hc hready x hp (hx x List.mem_cons_self)
    obtain ⟨u, hrun, hu, hpu⟩ := ih hmode hp' fun y hy => hx y (List.mem_cons_of_mem x hy)
    refine ⟨u, ?_, ?_, hpu⟩
    · rw [List.flatMap_cons, List.length_append, execN_append _ hround]
      exact hrun
    · simpa using hu

/-- Settles O22: the read and the write, the rounds, then the target mode with the bit at 1. -/
theorem setmodeWaitsForModeReady : Obligations.SetmodeWaitsForModeReady := by
  intro s i c m v w r f rounds rest txns hc hb hready ha hv hx hr hf htxns
  refine modeRun_settles hc ?_
  obtain ⟨t, hrun, hmode, hp⟩ := transition_run hb hc ha hv
  have hparams := modeStart_params c s
  rw [← hparams] at hready
  obtain ⟨u, hrounds, hmode₁, hp₁⟩ := hmode.rounds hc.modeStart hready rounds hp (by rwa [hparams])
  have hmode₂ := hmode₁.poll m c
  have hp₂ := hmode₁.poll_pos (m := m) (c := c) hp₁
  rw [hready, hparams, hr, if_pos rfl, if_pos rfl] at hp₂
  have hmode₃ := hmode₂.ready m c
  have hp₃ := hmode₂.ready_pos (m := m) (c := c) hp₂
  rw [hparams, hf, if_pos rfl] at hp₃
  rw [hparams] at hmode₃
  refine ⟨_, ?_, htxns ▸ hmode₃, hp₃⟩
  rw [show ∀ n, n + 4 = 2 + (n + (1 + 1)) by omega, execN_append _ hrun, execN_append _ hrounds,
    execN_succ (hmode₁.exec_eq hc.modeStart hp₁)]
  exact execN_one (hmode₂.exec_eq hc.modeStart hp₂)

end

end

/-! ### Waits without end -/

/-- A wait whose every answered read leaves it where it is holds for any number of answers. -/
theorem execN_holds {i : Instr} {p : Pos} {a : RegAddr} {holds : Byte → Prop} {s : State} (waits : List Byte)
    {rest : List RadioAnswer} (he : s.errLatched = false) (ha : s.radio.answers = waits.map RadioAnswer.ok ++ rest)
    (hp : s.pos = some p) (hw : ∀ x ∈ waits, holds x)
    (hstep : ∀ t x, t.params = s.params → t.errLatched = false → t.nextAnswer = .ok x → t.pos = some p → holds x →
      exec i t = .next ((t.okRead a x).goto p)) :
    ∃ t, execN i waits.length s = .next t ∧ t.pos = s.pos ∧ t.flags = s.flags ∧ t.radio.answers = rest := by
  induction waits generalizing s with
  | nil => exact ⟨s, rfl, rfl, rfl, ha⟩
  | cons x waits ih =>
    have hx := hstep s x rfl he (nextAnswer_cons ha) hp (hw x List.mem_cons_self)
    have hp' : ((s.okRead a x).goto p).pos = some p := (okRead_port a x s).pos_goto hp
    obtain ⟨t, hrun, hpt, hflags, hrest⟩ := ih (s := (s.okRead a x).goto p) he (congrArg List.tail ha) hp'
      (fun y hy => hw y (List.mem_cons_of_mem x hy)) hstep
    refine ⟨t, ?_, ?_, hflags, hrest⟩
    · rw [List.length_cons, execN_succ hx]
      exact hrun
    · rw [hpt, hp', hp]

/-- Settles O23: each answer is one read that leaves the poll, or the wait, where it is. -/
theorem pollsHoldWithoutTheirAnswer : Obligations.PollsHoldWithoutTheirAnswer := by
  intro s m waits rest he ha
  refine ⟨fun hm hp hw => ?_, fun hp hw => ?_⟩
  · refine execN_holds waits (a := s.params.profile.aOpmode) he ha hp hw fun t x hparams he' ha' hp' hx => ?_
    rw [(callsMode_command hm).exec_eq hp', modeStep, modePoll_ok he' ha', hparams, hx, if_neg Bool.false_ne_true]
  · refine execN_holds waits (a := s.params.profile.aOpmode) he ha hp hw fun t x hparams he' ha' hp' hx => ?_
    rw [exec_sendStep (.inl rfl) hp', sendStep, sendWait_ok he' ha', hparams, hx, if_neg Bool.false_ne_true]

end Sys2Proof.Machine
end

section
/-! PROOFS. A latched error does not stop a command (60_exceptions.md section 2): what each step does with a failed
read, and with ERR latched. -/

namespace Sys2Proof.Machine

open Sys2Proof.Config

section

variable {i : Instr} {s : State} {c : ModeCall} {m : BitVec 3} {p q : Pos} {a : RegAddr}

/-- A step of a command that is one failed read and a move. -/
theorem failed_step (hp : s.pos = some p) (h : exec i s = .next ((s.failRead a).goto q)) :
    ∃ t, exec i s = .next t ∧ LatchedAt .read a t ∧ t.seq.xerr = true ∧ t.seq.outcome = s.seq.outcome
      ∧ t.pos = some q :=
  ⟨_, h, ⟨rfl, rfl, rfl⟩, rfl, rfl, (failRead_port a s).pos_goto hp⟩

/-- A step of a command that is a move alone. -/
theorem moving_step (hp : s.pos = some p) (h : exec i s = .next (s.goto q)) :
    ∃ t, exec i s = .next t ∧ t.radio = s.radio ∧ t.err = s.err ∧ t.seq.outcome = s.seq.outcome ∧ t.pos = some q :=
  ⟨_, h, rfl, rfl, rfl, pos_goto_of_running hp⟩

/-- The first read of a `SetMode` fails: it latches, and the call returns (R141). -/
theorem modeEnter_fails (hp : s.pos = some p) (hb : BeginsMode c s) (hc : CallsMode i c m s)
    (ha : s.nextAnswer = .fail) :
    ∃ t, exec i s = .next t ∧ PortRan s t [.read s.params.profile.aOpmode .fail] s.radio.answers.tail
      ∧ LatchedAt .read s.params.profile.aOpmode t ∧ t.seq.xerr = true ∧ t.pos = some (modeReturn c)
      ∧ t.flags = s.flags ∧ t.enc = s.enc ∧ DeviceFrame s t := by
  obtain ⟨hs, -⟩ := modeStart_eq c s
  have ha' : (modeStart c s).nextAnswer = .fail := by rw [hs]; exact ha
  have hp' : (modeStart c s).pos = some p := (modeStart_pos c s).trans hp
  refine ⟨_, (hb.exec_eq hc).trans (congrArg _ (modeEnter_fail ha')), ?_⟩
  refine ⟨?_, ?_, rfl, pos_goto_of_running (s := ((modeStart c s).clearErr.failRead _).keepOpmode 0) hp', ?_⟩
  · rw [hs]; exact ⟨rfl, rfl⟩
  · rw [hs]; exact ⟨rfl, rfl, rfl⟩
  · rw [hs]; exact ⟨rfl, rfl, rfl, ⟨rfl, rfl, rfl, rfl, fun _ => rfl, rfl⟩, rfl, rfl, fun _ => rfl⟩

/-- A step that is the RAwait of R183 and a move runs on. -/
theorem runsOn_rawait {us : Nat} (hp : s.pos = some p) (h : exec i s = .next ((rawait us s).goto q)) :
    RunsOn i s .await 0 (.await us) q := by
  have w := rawait_port us s
  refine ⟨_, h, w.pos_goto hp, w.flags, w.enc,
    ⟨w.fatal, ⟨w.params, w.operands, w.ie, congrArg _ w.flags, fun _ => congrArg (memRead · _) w.txbuf, w.host⟩,
      w.rx, w.glitchCnt, fun _ => congrArg (memRead · _) w.rxbuf⟩, ?_, fun he => ?_, fun he => ?_⟩
  · unfold State.goto
    rw [w.seq]
  · rw [rawait_latched he]
    exact ⟨rfl, rfl, rfl⟩
  · cases ha : s.nextAnswer with
    | ok b =>
      rw [rawait_ok he ha]
      exact ⟨⟨rfl, rfl⟩, fun _ _ => ⟨rfl, rfl⟩, nofun⟩
    | fail =>
      rw [rawait_fail he ha]
      exact ⟨⟨rfl, rfl⟩, nofun, fun _ => ⟨⟨rfl, rfl, rfl⟩, rfl⟩⟩

/-- The first burst made a no-op: its bytes count as sent, and the completion wait is next (R177, R178). -/
theorem sendFirst_latched (he : s.errLatched = true) :
    sendFirst s = ((s.setSent 0).setSent (0 + min s.seq.frameLen s.params.fifoDepth)).goto (.send .wait) := by
  have he' : (s.setSent 0).errLatched = true := he
  have hburst : sendBurst (min s.seq.frameLen s.params.fifoDepth) (s.setSent 0)
      = (s.setSent 0).setSent (0 + min s.seq.frameLen s.params.fifoDepth) := by
    rw [sendBurst, rburst_latched he']
    rfl
  have hpos : streamPos ((s.setSent 0).setSent (0 + min s.seq.frameLen s.params.fifoDepth)) = .send .wait :=
    streamPos_latched he
  rw [sendFirst, hburst, hpos]

/-- A failed read in a loop latches, and the command goes on after the loop. -/
theorem failed_loops (hwf : WellFormed i) (hp : s.pos = some p) (hbel : p.belongs i = true)
    (he : s.errLatched = false) (ha : s.nextAnswer = .fail) :
    (∀ c, p = .mode c .poll → ∃ t, exec i s = .next t ∧ LatchedAt .read s.params.profile.aOpmode t
        ∧ t.seq.xerr = true ∧ t.pos = some (modeReturn c))
      ∧ (∀ c, p = .mode c .ready → ∃ t, exec i s = .next t ∧ LatchedAt .read s.params.profile.aIrqFlags1 t
          ∧ t.seq.xerr = true ∧ t.pos = some (modeReturn c))
      ∧ (p = .send .poll → ∃ t, exec i s = .next t ∧ LatchedAt .read s.params.profile.aIrqFlags2 t
          ∧ t.seq.xerr = true ∧ t.pos = some (.send .wait))
      ∧ (p = .send .wait → ∃ t, exec i s = .next t ∧ LatchedAt .read s.params.profile.aOpmode t
          ∧ t.seq.xerr = true ∧ t.pos = some (.send .stop))
      ∧ (p = .recv .poll → ∃ t, exec i s = .next t ∧ LatchedAt .read s.params.profile.aIrqFlags2 t
          ∧ t.seq.xerr = true ∧ t.seq.outcome = s.seq.outcome ∧ t.pos = some (.mode .recvSettle .enter))
      ∧ (p = .recv .byte → ∃ t, exec i s = .next t ∧ LatchedAt .read s.params.profile.aFifo t
          ∧ t.seq.xerr = true ∧ t.seq.outcome = s.seq.outcome ∧ t.pos = some (.mode .recvSettle .enter)) := by
  refine ⟨?_, ?_, ?_, ?_, ?_, ?_⟩
  · rintro c rfl
    obtain ⟨m, hc⟩ := callsMode_of_belongs (s := s) hwf hbel
    obtain ⟨t, h, hl, hx, -, ht⟩ := failed_step hp ((hc.exec_eq hp).trans (congrArg _ (modePoll_fail he ha)))
    exact ⟨t, h, hl, hx, ht⟩
  · rintro c rfl
    obtain ⟨m, hc⟩ := callsMode_of_belongs (s := s) hwf hbel
    obtain ⟨t, h, hl, hx, -, ht⟩ := failed_step hp ((hc.exec_eq hp).trans (congrArg _ (modeReady_fail he ha)))
    exact ⟨t, h, hl, hx, ht⟩
  · rintro rfl
    have h := (exec_sendStep (send_of_belongs hbel) hp).trans (congrArg _ (sendPoll_fail he ha))
    obtain ⟨t, h, hl, hx, -, ht⟩ := failed_step hp h
    exact ⟨t, h, hl, hx, ht⟩
  · rintro rfl
    have h := (exec_sendStep (send_of_belongs hbel) hp).trans (congrArg _ (sendWait_fail he ha))
    obtain ⟨t, h, hl, hx, -, ht⟩ := failed_step hp h
    exact ⟨t, h, hl, hx, ht⟩
  · rintro rfl
    exact failed_step hp ((exec_recvStep (recv_of_belongs hbel) hp).trans (congrArg _ (recvPoll_fail he ha)))
  · rintro rfl
    exact failed_step hp ((exec_recvStep (recv_of_belongs hbel) hp).trans (congrArg _ (recvByte_fail he ha)))

/-- A loop met with ERR latched ends with no transaction. -/
theorem latched_loops (hwf : WellFormed i) (hp : s.pos = some p) (hbel : p.belongs i = true)
    (he : s.errLatched = true) :
    (∀ c, p = .mode c .poll → ∃ t, exec i s = .next t ∧ t.radio = s.radio ∧ t.err = s.err
        ∧ t.pos = some (modeReturn c))
      ∧ (p = .send .wait → ∃ t, exec i s = .next t ∧ t.radio = s.radio ∧ t.err = s.err
          ∧ t.pos = some (.send .stop))
      ∧ (p = .recv .poll → ∃ t, exec i s = .next t ∧ t.radio = s.radio ∧ t.err = s.err
          ∧ t.seq.outcome = s.seq.outcome ∧ t.pos = some (.mode .recvSettle .enter)) := by
  refine ⟨?_, ?_, ?_⟩
  · rintro c rfl
    obtain ⟨m, hc⟩ := callsMode_of_belongs (s := s) hwf hbel
    obtain ⟨t, h, hr, herr, -, ht⟩ := moving_step hp ((hc.exec_eq hp).trans (congrArg _ (modePoll_latched he)))
    exact ⟨t, h, hr, herr, ht⟩
  · rintro rfl
    have h := (exec_sendStep (send_of_belongs hbel) hp).trans (congrArg _ (sendWait_latched he))
    obtain ⟨t, h, hr, herr, -, ht⟩ := moving_step hp h
    exact ⟨t, h, hr, herr, ht⟩
  · rintro rfl
    exact moving_step hp ((exec_recvStep (recv_of_belongs hbel) hp).trans (congrArg _ (recvPoll_latched he)))

end

/-- Settles O24: the steps of each loop by their equations with a failed read and with ERR latched, the straight-line
steps as one write or one await, and the two completions. -/
theorem failedReadEndsEveryLoop : Obligations.FailedReadEndsEveryLoop := by
  intro i s p hwf hp hbel
  refine ⟨fun c m hc hb => modeEnter_fails hp hb hc, failed_loops hwf hp hbel, latched_loops hwf hp hbel,
    ⟨?_, ?_, ?_, ?_, ?_, ?_, ?_, ?_, ?_⟩, ?_⟩
  · rintro c m rfl hc
    exact runsOn_rwrite hp (hc.exec_eq hp)
  · rintro rfl
    exact runsOn_rwrite hp (exec_sendStep (send_of_belongs hbel) hp)
  · rintro rfl
    exact runsOn_rwrite hp (exec_sendStep (send_of_belongs hbel) hp)
  · rintro rfl
    exact runsOn_rwrite hp (exec_sendStep (send_of_belongs hbel) hp)
  · rintro rfl he
    have h := (exec_sendStep (send_of_belongs hbel) hp).trans (congrArg _ (sendFirst_latched he))
    refine ⟨_, h, pos_goto_of_running (s := (s.setSent 0).setSent _) hp, ?_, rfl, rfl, rfl, rfl, rfl,
      ⟨rfl, rfl, rfl, rfl, fun _ => rfl, rfl⟩, rfl, rfl, fun _ => rfl⟩
    rw [Nat.zero_add]
    rfl
  · rintro rfl
    exact runsOn_rwrite hp (exec_sendStep (send_of_belongs hbel) hp)
  · rintro (⟨rfl, rfl⟩ | ⟨rfl, rfl⟩) he
    · exact runsOn_rwrite hp ((exec_recv_start hp).trans (congrArg _ (gate_clear he ..)))
    · exact runsOn_rwrite hp ((exec_sendrecv_sent hp).trans (congrArg _ (gate_clear he ..)))
  · rintro rfl
    exact runsOn_rawait hp (exec_recvStep (recv_of_belongs hbel) hp)
  · rintro rfl
    exact runsOn_rwrite hp (exec_recvStep (recv_of_belongs hbel) hp)
  · rintro (⟨⟨m, rfl⟩, rfl⟩ | ⟨rfl, rfl⟩)
    · exact ⟨_, exec_setmode_finish (of_decide_eq_true hwf) hp, completed_completeDevice s, rfl, rfl, rfl,
        deviceFrame_completeDevice s⟩
    · exact ⟨_, exec_send_sent hp, completed_completeDevice s, rfl, rfl, rfl, deviceFrame_completeDevice s⟩

end Sys2Proof.Machine
end

section
/-! PROOFS. Runs of the framer in which no transaction fails (42_packet_framing.md sections 2 to 4): the state such a
run has come to, its steps, and the parts of SEND, RECV and SENDRECV that are straight lines. -/

namespace Sys2Proof.Machine

open Sys2Proof.Config

/-- The state a run from `s` has come to in which no transaction failed and no byte was received: position `p` of the
word `w`, hidden state otherwise `q`, `d` answers used up, the record longer by `txns` (newest first), the answers
`rest` pending. -/
def State.ranTo (s : State) (w : Word) (p : Pos) (q : Sequencer) (d : Nat) (txns : List Txn) (rest : List RadioAnswer) :
    State :=
  { s with
    radio := { answers := rest, drawn := s.radio.drawn + d, log := txns ++ s.radio.log }
    seq := { q with phase := .running w p } }

section

variable {i : Instr} {s : State} {w : Word} {p p' : Pos} {q : Sequencer} {d : Nat} {txns : List Txn}
  {rest : List RadioAnswer} {b v : Byte} {m : BitVec 3} {c : ModeCall}

theorem ranTo_self (hp : s.seq.phase = .running w p) : s.ranTo w p s.seq 0 [] s.radio.answers = s := by
  unfold State.ranTo
  rw [← hp]
  rfl

theorem eq_ranTo (hp : s.seq.phase = .running w p) (ha : s.radio.answers = rest) : s = s.ranTo w p s.seq 0 [] rest := by
  rw [← ha, ranTo_self hp]

theorem clearErr_of_clear (he : s.errLatched = false) : s.clearErr = s := by
  unfold State.clearErr
  rw [err_slot_none he]

/-! ### The steps -/

theorem rwrite_ranTo (he : s.errLatched = false) (a : RegAddr) (v : Byte) :
    (rwrite a v (s.ranTo w p q d txns (.ok b :: rest))).goto p'
      = s.ranTo w p' q (d + 1) (.write a v (.ok b) :: txns) rest :=
  congrArg (State.goto p') (rwrite_ok (s := s.ranTo w p q d txns (.ok b :: rest)) he rfl a v)

/-- A `SetMode` that the first read ends. -/
theorem modeEnter_ranTo (he : s.errLatched = false) (hm : modeIs s.params.profile v m = true) :
    modeEnter m c (s.ranTo w p q d txns (.ok v :: rest))
      = s.ranTo w (modeReturn c) { q with opmode := v } (d + 1)
        (.read s.params.profile.aOpmode (.ok v) :: txns) rest := by
  have hclear : (s.ranTo w p q d txns (.ok v :: rest)).clearErr = _ := clearErr_of_clear he
  have hm' : modeIs (s.ranTo w p q d txns (.ok v :: rest)).params.profile v m = true := hm
  rw [modeEnter_ok (nextAnswer_cons rfl), hclear, if_pos hm']
  rfl

theorem exec_mode_ranTo (he : s.errLatched = false) (hc : CallsMode i c m s)
    (hm : modeIs s.params.profile v m = true) (p' : Pos) (hp' : modeReturn c = p') :
    exec i (s.ranTo w (.mode c .enter) q d txns (.ok v :: rest)) = .next (s.ranTo w p' { q with opmode := v }
      (d + 1) (.read s.params.profile.aOpmode (.ok v) :: txns) rest) := by
  have hc' : CallsMode i c m (s.ranTo w (.mode c .enter) q d txns (.ok v :: rest)) := hc.of_operands rfl
  rw [hc'.exec_eq rfl, modeStep, modeEnter_ranTo he hm, hp']

/-- A first burst that leaves nothing to send goes on to the completion wait (R178). -/
theorem sendFirst_of_all_sent {u : State} (hburst : sendBurst (min s.seq.frameLen s.params.fifoDepth) (s.setSent 0) = u)
    (hsent : u.seq.sent = u.seq.frameLen) (he : u.errLatched = false) : sendFirst s = u.goto (.send .wait) := by
  rw [sendFirst, hburst, streamPos_clear he, if_neg (Nat.not_lt.mpr hsent.ge)]

/-- The first burst of a frame that fits the FIFO is the whole frame (R177). -/
theorem sendFirst_ranTo (he : s.errLatched = false) (hlen : q.frame.length = q.frameLen)
    (hfit : q.frameLen ≤ s.params.fifoDepth) : sendFirst (s.ranTo w p q d txns (.ok b :: rest))
      = s.ranTo w (.send .wait) { q with sent := q.frameLen } (d + 1)
        (.burst s.params.profile.aFifo q.frame (.ok b) :: txns) rest := by
  have hburst : sendBurst q.frameLen ((s.ranTo w p q d txns (.ok b :: rest)).setSent 0)
      = s.ranTo w p { q with sent := 0 + q.frameLen } (d + 1)
        (.burst s.params.profile.aFifo (q.frame.take q.frameLen) (.ok b) :: txns) rest :=
    sendBurst_ok (s := (s.ranTo w p q d txns (.ok b :: rest)).setSent 0) he rfl
  rw [Nat.zero_add, List.take_of_length_le hlen.le] at hburst
  have hmin : min q.frameLen s.params.fifoDepth = q.frameLen := Nat.min_eq_left hfit
  exact sendFirst_of_all_sent ((congrArg (sendBurst · _) hmin).trans hburst) rfl he

/-- A completion wait that the first poll ends. -/
theorem sendWait_ranTo (he : s.errLatched = false) (hm : modeIs s.params.profile v 1 = true) :
    sendWait (s.ranTo w p q d txns (.ok v :: rest))
      = s.ranTo w (.send .stop) q (d + 1) (.read s.params.profile.aOpmode (.ok v) :: txns) rest := by
  have hm' : modeIs (s.ranTo w p q d txns (.ok v :: rest)).params.profile v modeStandby = true := hm
  rw [sendWait_ok (s := s.ranTo w p q d txns (.ok v :: rest)) he rfl, if_pos hm']
  rfl

/-! ### The send part (R175 to R177, R181) -/

theorem length_memSlice (m : Memory) (j k : Nat) : (memSlice m j k).length = k := by
  rw [memSlice, List.length_map, List.length_range]

/-- The first step of a send whose radio is in Standby, with the frame loaded (R173 to R176). -/
theorem exec_send_begins (hi : i = .send ∨ i = .sendrecv) (hp : s.seq.phase = .running w .start)
    (he : s.errLatched = false) (hl : s.operands.txlen.toNat ≤ s.params.maxPacket)
    (ha : s.radio.answers = .ok v :: rest) (hm : modeIs s.params.profile v 1 = true) :
    exec i s = .next (s.ranTo w (.send .clear) { s.loadFrame.seq with opmode := v } 1
      [.read s.params.profile.aOpmode (.ok v)] rest) := by
  have hpos : s.pos = some .start := pos_eq_some.mpr ⟨w, hp⟩
  have hb : BeginsMode .sendStandby s := .inr ⟨hpos, .inr ⟨rfl, he, hl⟩⟩
  have hload : modeStart .sendStandby s = s.ranTo w .start s.loadFrame.seq 0 [] (.ok v :: rest) := by
    rw [modeStart, if_pos ⟨hpos, rfl⟩, ← ha]
    exact (ranTo_self (s := s.loadFrame) hp).symm
  rw [hb.exec_eq (callsMode_sendStandby hi), hload]
  exact congrArg _ (modeEnter_ranTo he hm)

section

variable (hi : i = .send ∨ i = .sendrecv) (he : s.errLatched = false)
include hi he

theorem exec_clear_ranTo : exec i (s.ranTo w (.send .clear) q d txns (.ok b :: rest)) = .next (s.ranTo w (.send .arm) q
    (d + 1) (.write s.params.profile.aIrqFlags2 s.params.profile.mFifoOverrun (.ok b) :: txns) rest) :=
  (exec_sendStep (p := .clear) hi rfl).trans (congrArg _ (rwrite_ranTo he ..))

theorem exec_arm_ranTo : exec i (s.ranTo w (.send .arm) q d txns (.ok b :: rest)) = .next (s.ranTo w (.send .length) q
    (d + 1) (.write s.params.profile.aSeqConfig1 s.params.seqTxArm (.ok b) :: txns) rest) :=
  (exec_sendStep (p := .arm) hi rfl).trans (congrArg _ (rwrite_ranTo he ..))

theorem exec_length_ranTo : exec i (s.ranTo w (.send .length) q d txns (.ok b :: rest))
    = .next (s.ranTo w (.send .first) q (d + 1)
      (.write s.params.profile.aPayloadLength (BitVec.ofNat 8 q.frameLen) (.ok b) :: txns) rest) :=
  (exec_sendStep (p := .length) hi rfl).trans (congrArg _ (rwrite_ranTo he ..))

theorem exec_first_ranTo (hlen : q.frame.length = q.frameLen) (hfit : q.frameLen ≤ s.params.fifoDepth) :
    exec i (s.ranTo w (.send .first) q d txns (.ok b :: rest)) = .next (s.ranTo w (.send .wait)
      { q with sent := q.frameLen } (d + 1) (.burst s.params.profile.aFifo q.frame (.ok b) :: txns) rest) :=
  (exec_sendStep (p := .first) hi rfl).trans (congrArg _ (sendFirst_ranTo he hlen hfit))

theorem exec_wait_ranTo (hm : modeIs s.params.profile v 1 = true) :
    exec i (s.ranTo w (.send .wait) q d txns (.ok v :: rest)) = .next (s.ranTo w (.send .stop) q (d + 1)
      (.read s.params.profile.aOpmode (.ok v) :: txns) rest) :=
  (exec_sendStep (p := .wait) hi rfl).trans (congrArg _ (sendWait_ranTo he hm))

theorem exec_stop_ranTo : exec i (s.ranTo w (.send .stop) q d txns (.ok b :: rest)) = .next (s.ranTo w
    (.mode .sendSettle .enter) q (d + 1) (.write s.params.profile.aSeqConfig1 s.params.seqStop (.ok b) :: txns) rest) :=
  (exec_sendStep (p := .stop) hi rfl).trans (congrArg _ (rwrite_ranTo he ..))

end

/-- The transactions of a send of `frame` in one burst, newest first (R172). -/
def sendTxns (s : State) (frame : List Byte) (frameLen : Nat) (v1 b1 b2 b3 b4 v2 b5 v3 : Byte) : List Txn :=
  [.read s.params.profile.aOpmode (.ok v3),
   .write s.params.profile.aSeqConfig1 s.params.seqStop (.ok b5),
   .read s.params.profile.aOpmode (.ok v2),
   .burst s.params.profile.aFifo frame (.ok b4),
   .write s.params.profile.aPayloadLength (BitVec.ofNat 8 frameLen) (.ok b3),
   .write s.params.profile.aSeqConfig1 s.params.seqTxArm (.ok b2),
   .write s.params.profile.aIrqFlags2 s.params.profile.mFifoOverrun (.ok b1),
   .read s.params.profile.aOpmode (.ok v1)]

/-- The send part of SEND and SENDRECV, step by step, where one burst takes the frame and no wait goes round. -/
theorem execN_send_part {v1 b1 b2 b3 b4 v2 b5 v3 : Byte} (hi : i = .send ∨ i = .sendrecv)
    (hp : s.seq.phase = .running w .start) (he : s.errLatched = false)
    (hl : s.operands.txlen.toNat ≤ s.params.maxPacket) (hfit : s.operands.txlen.toNat + 1 ≤ s.params.fifoDepth)
    (ha : s.radio.answers
      = .ok v1 :: .ok b1 :: .ok b2 :: .ok b3 :: .ok b4 :: .ok v2 :: .ok b5 :: .ok v3 :: rest)
    (hm1 : modeIs s.params.profile v1 1 = true) (hm2 : modeIs s.params.profile v2 1 = true)
    (hm3 : modeIs s.params.profile v3 s.idleMode = true) :
    ∃ q, q.xerr = s.seq.xerr
      ∧ execN i 8 s = .next (s.ranTo w .sent q 8 (sendTxns s (memSlice s.txbuf 0 s.operands.txlen.toNat ++ [0])
        (s.operands.txlen.toNat + 1) v1 b1 b2 b3 b4 v2 b5 v3) rest) := by
  have hlen : s.loadFrame.seq.frame.length = s.loadFrame.seq.frameLen := by
    rw [loadFrame_seq_frame, List.length_append, length_memSlice]
    rfl
  refine ⟨{ s.loadFrame.seq with opmode := v3, sent := s.loadFrame.seq.frameLen }, rfl, ?_⟩
  rw [execN_succ (exec_send_begins hi hp he hl ha hm1), execN_succ (exec_clear_ranTo hi he),
    execN_succ (exec_arm_ranTo hi he), execN_succ (exec_length_ranTo hi he),
    execN_succ (exec_first_ranTo (q := { s.loadFrame.seq with opmode := v1 }) hi he hlen hfit),
    execN_succ (exec_wait_ranTo hi he hm2), execN_succ (exec_stop_ranTo hi he),
    execN_succ (exec_mode_ranTo he (callsMode_sendSettle hi) hm3 .sent rfl)]
  rfl

end

/-- Settles O31: the send part, then the completion. -/
theorem sendSingleBurstRun : Obligations.SendSingleBurstRun := by
  intro s v1 b1 b2 b3 b4 v2 b5 v3 rest hp he hl hfit ha hm1 hm2 hm3
  obtain ⟨w, hw⟩ := pos_eq_some.mp hp
  rw [← idleMode_eq] at hm3
  obtain ⟨q, hx, hrun⟩ := execN_send_part (.inl rfl) hw he hl hfit ha hm1 hm2 hm3
  refine ⟨_, (execN_append 1 hrun).trans (execN_one (exec_send_sent rfl)), ⟨rfl, rfl⟩, ?_, (err_slot_none he).symm, rfl,
    deviceFrame_completeDevice _⟩
  rw [← hx]
  exact completed_completeDevice _

end Sys2Proof.Machine
end

section
/-! PROOFS. The receive part of RECV and SENDRECV (42_packet_framing.md sections 3 and 4): the byte loop and its bound
(R186, R187, R251), an empty FIFO (R186), and the runs of a whole receive (R182 to R190, R192). -/

namespace Sys2Proof.Machine

open Sys2Proof.Config

/-! ### The RSSI sample (R184, R185) -/

section

variable {i : Instr} {s t : State} {b v : Byte}

theorem recvRssi_latched (he : s.errLatched = true) : recvRssi s = (s.startReceive 0).goto (.recv .poll) := by
  rw [recvRssi, rread_latched he, rreadByte, if_pos he]

theorem recvRssi_ok (he : s.errLatched = false) (ha : s.nextAnswer = .ok b) :
    recvRssi s = ((s.okRead s.params.profile.aRssiValue b).startReceive b).goto (.recv .poll) := by
  rw [recvRssi, rread_eq_okRead he ha, rreadByte_ok he ha]

theorem recvRssi_fail (he : s.errLatched = false) (ha : s.nextAnswer = .fail) :
    recvRssi s = ((s.failRead s.params.profile.aRssiValue).startReceive 0).goto (.recv .poll) := by
  have hbyte : rreadByte s = 0 := by rw [rreadByte, ha, answerByte, ite_self]
  rw [recvRssi, rread_eq_failRead he ha, hbyte]

/-! ### One step of the byte loop (R186, R187) -/

/-- Settles O37: the two ends of an empty poll, and the sleep. -/
theorem emptyPollSpendsBudget : Obligations.EmptyPollSpendsBudget := by
  refine fun s i hi => ⟨fun f hp he ha hf => ?_, fun hp => ?_⟩
  · have hstep := exec_recvStep hi hp
    cases hb : s.seq.budget with
    | zero =>
      rw [recvStep, recvPoll_empty_of_no_budget he ha hf hb] at hstep
      exact ⟨_, hstep, hb, rfl, rfl, nofun, fun _ => ⟨setOutcome_pos_goto (okRead_port _ f s) hp, rfl⟩⟩
    | succ n =>
      rw [recvStep, recvPoll_empty_of_budget he ha hf (hb ▸ Nat.succ_pos n)] at hstep
      exact ⟨_, hstep, hb, rfl, rfl, fun _ => ⟨(okRead_port _ f s).pos_goto hp, rfl⟩, nofun⟩
  · exact ⟨_, exec_recvStep hi hp, rfl, rfl, pos_goto_of_running (s := (sleep _ s).setBudget _) hp, rfl, rfl, rfl⟩

/-- The conditions of the byte loop that O41 keeps: a count within RXBUF, a sleep with budget, a BYTETIME. -/
structure InLoop (s : State) : Prop where
  pos : inByteLoop s.pos = true
  count : s.seq.count ≤ s.params.rxbufSize
  sleeps : s.pos = some (.recv .sleep) → 0 < s.seq.budget
  bytetime : s.operands.bytetime ≠ 0

theorem byteLoopMeasure_poll (hp : s.pos = some (.recv .poll)) :
    byteLoopMeasure s = 2 * (s.params.rxbufSize + 1 - s.seq.count) + 2 * s.seq.budget + 1 := by
  rw [byteLoopMeasure, if_pos hp]

theorem byteLoopMeasure_not_poll (hp : s.pos ≠ some (.recv .poll)) :
    byteLoopMeasure s = 2 * (s.params.rxbufSize + 1 - s.seq.count) + 2 * s.seq.budget := by
  rw [byteLoopMeasure, if_neg hp, Nat.add_zero]

/-- A step of the loop leaves it, or goes on in it with a smaller measure. -/
def StepFalls (s t : State) : Prop :=
  t.pos = some (.mode .recvSettle .enter) ∨ (InLoop t ∧ byteLoopMeasure t < byteLoopMeasure s)

/-- A poll that goes on to a byte, or with budget to a sleep, keeps the count and the budget. -/
theorem stepFalls_of_poll {p : RecvPos} {a : RegAddr} (hs : InLoop s) (hp : s.pos = some (.recv .poll))
    (hgoes : p = .byte ∨ (p = .sleep ∧ 0 < s.seq.budget)) : StepFalls s ((s.okRead a b).goto (.recv p)) := by
  have hpos : ((s.okRead a b).goto (.recv p)).pos = some (.recv p) := (okRead_port a b s).pos_goto hp
  have hloop : inByteLoop (some (.recv p)) = true ∧ some (Pos.recv p) ≠ some (.recv .poll)
      ∧ (some (Pos.recv p) = some (.recv .sleep) → 0 < s.seq.budget) := by
    obtain rfl | ⟨rfl, hb⟩ := hgoes
    · exact ⟨rfl, nofun, nofun⟩
    · exact ⟨rfl, nofun, fun _ => hb⟩
  rw [← hpos] at hloop
  obtain ⟨hin, hnot, hbudget⟩ := hloop
  refine .inr ⟨⟨hin, hs.count, hbudget, hs.bytetime⟩, ?_⟩
  rw [byteLoopMeasure_poll hp, byteLoopMeasure_not_poll hnot]
  exact Nat.lt_succ_self _

theorem stepFalls_recvPoll (hs : InLoop s) (hp : s.pos = some (.recv .poll)) : StepFalls s (recvPoll s) := by
  cases he : s.errLatched with
  | true => rw [recvPoll_latched he]; exact .inl (pos_goto_of_running hp)
  | false => cases ha : s.nextAnswer with
    | fail => rw [recvPoll_fail he ha]; exact .inl ((failRead_port _ s).pos_goto hp)
    | ok b => cases hb : flagSet b s.params.profile.mFifoEmpty with
      | false => rw [recvPoll_notEmpty he ha hb]; exact stepFalls_of_poll hs hp (.inl rfl)
      | true =>
        obtain hg | hg := Nat.eq_zero_or_pos s.seq.budget
        · rw [recvPoll_empty_of_no_budget he ha hb hg]; exact .inl (setOutcome_pos_goto (okRead_port _ b s) hp)
        · rw [recvPoll_empty_of_budget he ha hb hg]; exact stepFalls_of_poll hs hp (.inr ⟨rfl, hg⟩)

theorem bytetimeNat_pos (h : s.operands.bytetime ≠ 0) : 0 < s.bytetimeNat :=
  Nat.pos_of_ne_zero fun h0 => h (BitVec.eq_of_toNat_eq h0)

/-- A sleep spends budget. -/
theorem stepFalls_recvSleep (hs : InLoop s) (hp : s.pos = some (.recv .sleep)) : StepFalls s (recvSleep s) := by
  have hpos : (recvSleep s).pos = some (.recv .poll) := pos_goto_of_running (s := (sleep _ s).setBudget _) hp
  have hnot : s.pos ≠ some (.recv .poll) := by rw [hp]; nofun
  refine .inr ⟨⟨hpos ▸ rfl, hs.count, fun h => ?_, hs.bytetime⟩, ?_⟩
  · rw [hpos] at h
    cases h
  · rw [byteLoopMeasure_poll hpos, byteLoopMeasure_not_poll hnot]
    have hbudget : (recvSleep s).seq.budget = s.seq.budget - s.bytetimeNat := rfl
    have hcount : (recvSleep s).params.rxbufSize + 1 - (recvSleep s).seq.count
        = s.params.rxbufSize + 1 - s.seq.count := rfl
    have hspent := bytetimeNat_pos hs.bytetime
    have hleft := hs.sleeps hp
    omega

/-- A byte stored takes one of RXBUF's free places. -/
theorem stepFalls_store {a : RegAddr} (hs : InLoop s) (hp : s.pos = some (.recv .byte))
    (hn : s.seq.count ≠ s.params.rxbufSize) :
    StepFalls s ((((s.okRead a b).writeRx s.seq.count b).setCount (s.seq.count + 1)).goto (.recv .poll)) := by
  have hpos : ((((s.okRead a b).writeRx s.seq.count b).setCount (s.seq.count + 1)).goto (.recv .poll)).pos
      = some (.recv .poll) := pos_goto_of_running (s := ((s.okRead a b).writeRx s.seq.count b).setCount _) hp
  have hnot : s.pos ≠ some (.recv .poll) := by rw [hp]; nofun
  have hfree : s.seq.count < s.params.rxbufSize := Nat.lt_of_le_of_ne hs.count hn
  refine .inr ⟨⟨hpos ▸ rfl, hfree, fun h => ?_, hs.bytetime⟩, ?_⟩
  · rw [hpos] at h
    cases h
  · rw [byteLoopMeasure_poll hpos, byteLoopMeasure_not_poll hnot]
    change 2 * (s.params.rxbufSize + 1 - (s.seq.count + 1)) + 2 * s.seq.budget + 1 < _
    omega

theorem stepFalls_recvByte (hs : InLoop s) (hp : s.pos = some (.recv .byte)) : StepFalls s (recvByte s) := by
  cases he : s.errLatched with
  | true => rw [recvByte_latched he]; exact .inl (pos_goto_of_running hp)
  | false => cases ha : s.nextAnswer with
    | fail => rw [recvByte_fail he ha]; exact .inl ((failRead_port _ s).pos_goto hp)
    | ok b =>
      by_cases hb : b = 0
      · rw [hb] at ha
        rw [recvByte_sentinel he ha]
        exact .inl (pos_goto_of_running ((sentinel_pos _).trans hp))
      · by_cases hn : s.seq.count = s.params.rxbufSize
        · rw [recvByte_full he ha hb hn]; exact .inl (setOutcome_pos_goto (okRead_port _ b s) hp)
        · rw [recvByte_store he ha hb hn]; exact stepFalls_store hs hp hn

/-- Settles O41: the three steps of the loop, each of which leaves it or makes the measure smaller. -/
theorem byteLoopMeasureFalls : Obligations.ByteLoopMeasureFalls := by
  intro s t i hi hloop hcount hsleeps hbytetime hstep
  have hs : InLoop s := ⟨hloop, hcount, hsleeps, hbytetime⟩
  have hfalls : ∀ p, s.pos = some (.recv p) → StepFalls s (recvStep p s) → StepFalls s t := fun p hp h => by
    rw [exec_recvStep hi hp] at hstep
    injection hstep with hstep
    rwa [← hstep]
  have hcases : s.pos = some (.recv .poll) ∨ s.pos = some (.recv .sleep) ∨ s.pos = some (.recv .byte) := by
    unfold inByteLoop at hloop
    split at hloop
    · exact .inl ‹_›
    · exact .inr (.inl ‹_›)
    · exact .inr (.inr ‹_›)
    · cases hloop
  have hstepFalls : StepFalls s t := by
    obtain hp | hp | hp := hcases
    · exact hfalls _ hp (stepFalls_recvPoll hs hp)
    · exact hfalls _ hp (stepFalls_recvSleep hs hp)
    · exact hfalls _ hp (stepFalls_recvByte hs hp)
  obtain hleft | ⟨ht, hless⟩ := hstepFalls
  · exact .inl hleft
  · exact .inr ⟨ht.pos, hless, ht.count, ht.sleeps, ht.bytetime⟩

end

/-! ### The receive part of SENDRECV (R192) -/

/-- Settles O43: the gate after the send part. -/
theorem sendrecvSkipsReceive : Obligations.SendrecvSkipsReceive := by
  refine fun s hp => ⟨fun he => ?_, fun he => ?_⟩
  · exact ⟨_, (exec_sendrecv_sent hp).trans (congrArg _ (gate_latched he ..)), completed_completeDevice s.rxNoOp,
      rfl, rfl, rfl, rfl, keepsHostSide_commit .., fun _ => rfl, rfl⟩
  · have hport := rwrite_port s.params.profile.aPayloadLength 0 s
    refine ⟨_, (exec_sendrecv_sent hp).trans (congrArg _ (gate_clear he ..)), hport.pos_goto hp, ?_, hport.rx,
      hport.flags⟩
    cases ha : s.nextAnswer with
    | ok b => rw [receiveStart, rwrite_ok he ha]; rfl
    | fail => rw [receiveStart, rwrite_fail he ha]; rfl

end Sys2Proof.Machine
end

section
/-! PROOFS. Runs of a receive in which no transaction fails (42_packet_framing.md sections 3 and 4): the set-up, an
empty FIFO (R186), a packet (R187, R188), the exit path (R189, R190), and SENDRECV of both parts (R192). -/

namespace Sys2Proof.Machine

open Sys2Proof.Config

/-- Hidden state where the byte loop starts, after the RSSI sample `raw` (R184, R185). -/
def Sequencer.receiving (q : Sequencer) (raw : Byte) (budget : Nat) : Sequencer :=
  { q with raw := raw, budget := budget, count := 0, glitch := false, outcome := .abort }

section

variable {i : Instr} {s : State} {w : Word} {p : Pos} {q : Sequencer} {d : Nat} {txns : List Txn}
  {rest : List RadioAnswer} {b v f : Byte}

/-! ### The steps -/

section

variable (hi : i = .recv ∨ i = .sendrecv) (he : s.errLatched = false)

theorem receiveGate_ranTo (he : s.errLatched = false) : receiveGate (s.ranTo w p q d txns (.ok b :: rest))
    = s.ranTo w (.mode .recvReceiver .enter) q (d + 1) (.write s.params.profile.aPayloadLength 0 (.ok b) :: txns) rest :=
  (gate_clear (s := s.ranTo w p q d txns (.ok b :: rest)) he ..).trans (rwrite_ranTo he ..)

include hi he

theorem exec_await_ranTo : exec i (s.ranTo w (.recv .await) q d txns (.ok b :: rest)) = .next (s.ranTo w (.recv .rssi) q
    (d + 1) (.await s.timeoutNat (.ok b) :: txns) rest) :=
  (exec_recvStep (p := .await) hi rfl).trans (congrArg _ (congrArg (State.goto (.recv .rssi))
    (rawait_ok (s := s.ranTo w (.recv .await) q d txns (.ok b :: rest)) he rfl s.timeoutNat)))

theorem exec_rssi_ranTo : exec i (s.ranTo w (.recv .rssi) q d txns (.ok b :: rest)) = .next (s.ranTo w (.recv .poll)
    (q.receiving b s.timeoutNat) (d + 1) (.read s.params.profile.aRssiValue (.ok b) :: txns) rest) :=
  (exec_recvStep (p := .rssi) hi rfl).trans (congrArg _
    (recvRssi_ok (s := s.ranTo w (.recv .rssi) q d txns (.ok b :: rest)) he rfl))

theorem exec_poll_byte_ranTo (hf : flagSet f s.params.profile.mFifoEmpty = false) :
    exec i (s.ranTo w (.recv .poll) q d txns (.ok f :: rest)) = .next (s.ranTo w (.recv .byte) q (d + 1)
      (.read s.params.profile.aIrqFlags2 (.ok f) :: txns) rest) :=
  (exec_recvStep (p := .poll) hi rfl).trans (congrArg _
    (recvPoll_notEmpty (s := s.ranTo w (.recv .poll) q d txns (.ok f :: rest)) he rfl hf))

theorem exec_poll_sleep_ranTo (hf : flagSet f s.params.profile.mFifoEmpty = true) (hb : 0 < q.budget) :
    exec i (s.ranTo w (.recv .poll) q d txns (.ok f :: rest)) = .next (s.ranTo w (.recv .sleep) q (d + 1)
      (.read s.params.profile.aIrqFlags2 (.ok f) :: txns) rest) :=
  (exec_recvStep (p := .poll) hi rfl).trans (congrArg _
    (recvPoll_empty_of_budget (s := s.ranTo w (.recv .poll) q d txns (.ok f :: rest)) he rfl hf hb))

theorem exec_poll_timeout_ranTo (hf : flagSet f s.params.profile.mFifoEmpty = true) (hb : q.budget = 0) :
    exec i (s.ranTo w (.recv .poll) q d txns (.ok f :: rest)) = .next (s.ranTo w (.mode .recvSettle .enter)
      { q with budget := 0, outcome := .timeout } (d + 1) (.read s.params.profile.aIrqFlags2 (.ok f) :: txns) rest) := by
  rw [← hb]
  exact (exec_recvStep (p := .poll) hi rfl).trans (congrArg _
    (recvPoll_empty_of_no_budget (s := s.ranTo w (.recv .poll) q d txns (.ok f :: rest)) he rfl hf hb))

omit he in
theorem exec_sleep_ranTo : exec i (s.ranTo w (.recv .sleep) q d txns rest) = .next (s.ranTo w (.recv .poll)
    { q with budget := q.budget - s.bytetimeNat } d (.sleep s.bytetimeNat :: txns) rest) :=
  exec_recvStep (p := .sleep) hi rfl

theorem exec_store_ranTo (hb : b ≠ 0) (hn : q.count ≠ s.params.rxbufSize) :
    exec i (s.ranTo w (.recv .byte) q d txns (.ok b :: rest)) = .next ((s.writeRx q.count b).ranTo w (.recv .poll)
      { q with count := q.count + 1 } (d + 1) (.read s.params.profile.aFifo (.ok b) :: txns) rest) :=
  (exec_recvStep (p := .byte) hi rfl).trans (congrArg _
    (recvByte_store (s := s.ranTo w (.recv .byte) q d txns (.ok b :: rest)) he rfl hb hn))

theorem exec_sentinel_ranTo : exec i (s.ranTo w (.recv .byte) q d txns (.ok 0 :: rest))
    = .next ((s.ranTo w (.recv .byte) q (d + 1)
      (.read s.params.profile.aFifo (.ok 0) :: txns) rest).sentinel.goto (.mode .recvSettle .enter)) :=
  (exec_recvStep (p := .byte) hi rfl).trans (congrArg _
    (recvByte_sentinel (s := s.ranTo w (.recv .byte) q d txns (.ok 0 :: rest)) he rfl))

theorem exec_recvClear_ranTo : exec i (s.ranTo w (.recv .clear) q d txns (.ok b :: rest)) = .next (s.ranTo w .finish q
    (d + 1) (.write s.params.profile.aIrqFlags2 s.params.profile.mFifoOverrun (.ok b) :: txns) rest) :=
  (exec_recvStep (p := .clear) hi rfl).trans (congrArg _ (rwrite_ranTo he ..))

/-! ### The straight-line parts -/

/-- From the receive's start to the byte loop (R183 to R185). -/
theorem execN_receive_setup {n : Nat} {b1 v1 b2 raw : Byte}
    (hstart : exec i (s.ranTo w p q d txns (.ok b1 :: .ok v1 :: .ok b2 :: .ok raw :: rest))
      = .next (receiveGate (s.ranTo w p q d txns (.ok b1 :: .ok v1 :: .ok b2 :: .ok raw :: rest))))
    (hm : modeIs s.params.profile v1 5 = true) :
    execN i (n + 4) (s.ranTo w p q d txns (.ok b1 :: .ok v1 :: .ok b2 :: .ok raw :: rest))
      = execN i n (s.ranTo w (.recv .poll) (Sequencer.receiving { q with opmode := v1 } raw s.timeoutNat) (d + 4)
        ([.read s.params.profile.aRssiValue (.ok raw), .await s.timeoutNat (.ok b2),
          .read s.params.profile.aOpmode (.ok v1), .write s.params.profile.aPayloadLength 0 (.ok b1)] ++ txns) rest) := by
  rw [receiveGate_ranTo he] at hstart
  rw [execN_succ hstart, execN_succ (exec_mode_ranTo he (callsMode_recvReceiver hi) hm (.recv .await) rfl),
    execN_succ (exec_await_ranTo hi he), execN_succ (exec_rssi_ranTo hi he)]
  rfl

/-- From the end of the byte loop to the completion (R189, R190). -/
theorem execN_receive_exit (hm : modeIs s.params.profile v s.idleMode = true) :
    execN i 3 (s.ranTo w (.mode .recvSettle .enter) q d txns (.ok v :: .ok b :: rest))
      = .next (s.ranTo w .finish { q with opmode := v } (d + 2)
        (.write s.params.profile.aIrqFlags2 s.params.profile.mFifoOverrun (.ok b)
          :: .read s.params.profile.aOpmode (.ok v) :: txns) rest).commitReceive.completeDevice := by
  rw [execN_succ (exec_mode_ranTo he (callsMode_recvSettle hi) hm (.recv .clear) rfl),
    execN_succ (exec_recvClear_ranTo hi he)]
  exact execN_one (exec_receive_finish hi rfl)

end

/-! ### An empty FIFO (R186) -/

theorem sleepCount_append (l l' : List Txn) : sleepCount (l ++ l') = sleepCount l + sleepCount l' := by
  induction l with
  | nil => exact (Nat.zero_add _).symm
  | cons x l ih => cases x with
    | sleep us =>
      change sleepCount (l ++ l') + 1 = sleepCount l + 1 + sleepCount l'
      omega
    | _ => exact ih

/-- How often a budget lasts for a sleep of `t`. -/
theorem sleeps_of_budget {n t : Nat} (ht : 0 < t) :
    (n + t - 1) / t = if n = 0 then 0 else (n - t + t - 1) / t + 1 := by
  split
  case isTrue hn =>
    rw [hn, Nat.zero_add]
    exact Nat.div_eq_of_lt (Nat.sub_lt ht Nat.one_pos)
  case isFalse hn =>
    obtain hle | hlt := Nat.le_total t n
    · rw [Nat.sub_add_cancel hle, show n + t - 1 = n - 1 + t by omega, Nat.add_div_right _ ht]
    · rw [Nat.sub_eq_zero_of_le hlt, Nat.zero_add, Nat.div_eq_of_lt (Nat.sub_lt ht Nat.one_pos),
        show n + t - 1 = n - 1 + t by omega, Nat.add_div_right _ ht, Nat.div_eq_of_lt (by omega)]

/-- The loop on an empty FIFO: a poll and a sleep while budget is left, then the poll that ends it. -/
theorem execN_empty_fifo (hi : i = .recv ∨ i = .sendrecv) (he : s.errLatched = false) (hbt : s.operands.bytetime ≠ 0)
    (hf : flagSet f s.params.profile.mFifoEmpty = true) (k : Nat)
    (hk : k = (q.budget + s.bytetimeNat - 1) / s.bytetimeNat) :
    ∃ d' txns', execN i (2 * k + 1) (s.ranTo w (.recv .poll) q d txns (List.replicate (k + 1) (.ok f) ++ rest))
        = .next (s.ranTo w (.mode .recvSettle .enter) { q with budget := 0, outcome := .timeout } d' txns' rest)
      ∧ sleepCount txns' = sleepCount txns + k := by
  rw [sleeps_of_budget (bytetimeNat_pos hbt)] at hk
  induction k generalizing q d txns with
  | zero =>
    have hq : q.budget = 0 := by
      by_contra hq
      rw [if_neg hq] at hk
      exact Nat.succ_ne_zero _ hk.symm
    refine ⟨d + 1, .read s.params.profile.aIrqFlags2 (.ok f) :: txns, ?_, rfl⟩
    exact execN_one (exec_poll_timeout_ranTo hi he hf hq)
  | succ k ih =>
    have hq : q.budget ≠ 0 := fun hq => by
      rw [if_pos hq] at hk
      omega
    rw [if_neg hq, sleeps_of_budget (bytetimeNat_pos hbt)] at hk
    obtain ⟨d', txns', hrun, hsleeps⟩ := ih (q := { q with budget := q.budget - s.bytetimeNat }) (d := d + 1)
      (txns := .sleep s.bytetimeNat :: .read s.params.profile.aIrqFlags2 (.ok f) :: txns) (Nat.succ_injective hk)
    refine ⟨d', txns', ?_, ?_⟩
    · rw [show 2 * (k + 1) + 1 = 2 * k + 1 + 1 + 1 by omega, List.replicate_succ, List.cons_append,
        execN_succ (exec_poll_sleep_ranTo hi he hf (Nat.pos_of_ne_zero hq)), execN_succ (exec_sleep_ranTo hi)]
      exact hrun
    · rw [hsleeps]
      change sleepCount txns + 1 + k = _
      omega

end

/-- Settles O36: the sample in its three cases, and the loop on an empty FIFO from the sample and from a poll. -/
theorem emptyFifoTimesOut : Obligations.EmptyFifoTimesOut := by
  refine fun s i hi => ⟨fun hp => ?_, fun k raw f rest hp he hbt hk hf ha => ?_, fun k f rest hp he hbt hk hf ha => ?_⟩
  · have hstep := exec_recvStep hi hp
    cases he : s.errLatched with
    | true =>
      rw [recvStep, recvRssi_latched he] at hstep
      exact ⟨_, hstep, pos_goto_of_running (s := s.startReceive 0) hp, rfl, rfl, rfl, rfl, rfl, rfl, rfl,
        fun _ => ⟨rfl, rfl, rfl⟩, nofun, nofun⟩
    | false => cases ha : s.nextAnswer with
      | ok b =>
        rw [recvStep, recvRssi_ok he ha] at hstep
        refine ⟨_, hstep, pos_goto_of_running (s := (s.okRead _ b).startReceive b) hp, rfl, rfl, rfl, rfl, rfl, rfl, rfl,
          nofun, ?_, nofun⟩
        rintro b' - ⟨⟩
        exact ⟨rfl, rfl, rfl⟩
      | fail =>
        rw [recvStep, recvRssi_fail he ha] at hstep
        exact ⟨_, hstep, pos_goto_of_running (s := (s.failRead _).startReceive 0) hp, rfl, rfl, rfl, rfl, rfl, rfl, rfl,
          nofun, nofun, fun _ _ => ⟨rfl, rfl, ⟨rfl, rfl, rfl⟩⟩⟩
  · obtain ⟨w, hw⟩ := pos_eq_some.mp hp
    obtain ⟨d, txns, hrun, hsleeps⟩ := execN_empty_fifo (w := w) (q := s.seq.receiving raw s.timeoutNat) (d := 1)
      (txns := [.read s.params.profile.aRssiValue (.ok raw)]) (rest := rest) hi he hbt hf k hk
    have hstart := (congrArg (execN i (2 * k + 2)) (eq_ranTo hw ha)).trans (execN_succ (exec_rssi_ranTo hi he) _)
    refine ⟨_, hstart.trans hrun, rfl, rfl, rfl, rfl, rfl, rfl, rfl, ?_, fun _ => rfl⟩
    exact (sleepCount_append txns s.radio.log).trans (by rw [hsleeps]; simp only [sleepCount]; omega)
  · obtain ⟨w, hw⟩ := pos_eq_some.mp hp
    obtain ⟨d, txns, hrun, hsleeps⟩ := execN_empty_fifo (w := w) (q := s.seq) (d := 0) (txns := []) (rest := rest)
      hi he hbt hf k hk
    have hstart := congrArg (execN i (2 * k + 1)) (eq_ranTo hw ha)
    refine ⟨_, hstart.trans hrun, rfl, rfl, rfl, rfl, rfl, ?_, fun _ => rfl⟩
    exact (sleepCount_append txns s.radio.log).trans (by rw [hsleeps]; simp only [sleepCount]; omega)

/-- Settles O42: the send part, the set-up, one poll that times out, and the exit path. -/
theorem sendrecvRun : Obligations.SendrecvRun := by
  intro s v1 b1 b2 b3 b4 v2 b5 v3 b6 v4 b7 raw f v5 b8 rest hp he hl hfit ht ha hm1 hm2 hm3 hm4 hf hm5
  obtain ⟨w, hw⟩ := pos_eq_some.mp hp
  rw [← idleMode_eq] at hm3 hm5
  have hi : Instr.sendrecv = .recv ∨ Instr.sendrecv = .sendrecv := .inr rfl
  obtain ⟨q, hx, hrun⟩ := execN_send_part (.inr rfl) hw he hl hfit ha hm1 hm2 hm3
  have htimeout : s.timeoutNat = 0 := congrArg BitVec.toNat ht
  have hrecv := execN_receive_setup (n := 4) hi he (exec_sendrecv_sent rfl) hm4 (w := w) (p := .sent) (q := q) (d := 8)
    (txns := sendTxns s (memSlice s.txbuf 0 s.operands.txlen.toNat ++ [0]) (s.operands.txlen.toNat + 1)
      v1 b1 b2 b3 b4 v2 b5 v3) (b1 := b6) (b2 := b7) (raw := raw) (rest := .ok f :: .ok v5 :: .ok b8 :: rest)
  rw [htimeout, execN_succ (exec_poll_timeout_ranTo hi he hf rfl), execN_receive_exit hi he hm5] at hrecv
  refine ⟨_, (execN_append 8 hrun).trans hrecv, ⟨rfl, rfl⟩, hx ▸ completed_completeDevice _,
    (err_slot_none he).symm, rfl, rfl, keepsHostSide_commit .., rfl, fun _ => rfl, rfl⟩

end Sys2Proof.Machine
end

section
/-! PROOFS. A RECV that delivers a packet (42_packet_framing.md section 3, R187 to R190): the bytes in RXBUF, the
sentinel, and the whole run. -/

namespace Sys2Proof.Machine

open Sys2Proof.Config

/-! ### The bytes of a packet in RXBUF (R187) -/

/-- The state with `bytes` stored in RXBUF from index `n` on. -/
def State.storeBytes (n : Nat) : List Byte → State → State
  | [], s => s
  | b :: bytes, s => State.storeBytes (n + 1) bytes (s.writeRx n b)

theorem storeBytes_eq (n : Nat) (bytes : List Byte) (s : State) :
    s.storeBytes n bytes = { s with rxbuf := (s.storeBytes n bytes).rxbuf } := by
  induction bytes generalizing n s with
  | nil => rfl
  | cons b bytes ih => exact ih (n + 1) (s.writeRx n b)

theorem memRead_storeBytes_outside {n a : Nat} {bytes : List Byte} {s : State} (hwf : Memory.wf s.rxbuf = true)
    (ha : a < n ∨ n + bytes.length ≤ a) : memRead (s.storeBytes n bytes).rxbuf a = memRead s.rxbuf a := by
  induction bytes generalizing n s with
  | nil => rfl
  | cons b bytes ih =>
    rw [List.length_cons] at ha
    have hne : a ≠ n := by omega
    rw [State.storeBytes, ih (memWrite_wf n b hwf) (by omega)]
    exact (memRead_memWrite n a b hwf).trans (if_neg hne)

theorem memRead_storeBytes {n k : Nat} {bytes : List Byte} {s : State} (hwf : Memory.wf s.rxbuf = true)
    (hk : k < bytes.length) : memRead (s.storeBytes n bytes).rxbuf (n + k) = bytes[k] := by
  induction bytes generalizing n k s with
  | nil => exact absurd hk (Nat.not_lt_zero k)
  | cons b bytes ih => cases k with
    | zero =>
      have hwf' : Memory.wf (s.writeRx n b).rxbuf = true := memWrite_wf n b hwf
      have hkept := memRead_storeBytes_outside (n := n + 1) (bytes := bytes) hwf' (.inl (Nat.lt_succ_self n))
      exact hkept.trans ((memRead_memWrite n n b hwf).trans (if_pos rfl))
    | succ k =>
      rw [State.storeBytes, show n + (k + 1) = n + 1 + k by omega, ih (memWrite_wf n b hwf) (Nat.lt_of_succ_lt_succ hk)]
      rfl

theorem byteAnswers_append (f b : Byte) (bytes : List Byte) :
    byteAnswers f (bytes ++ [b]) = byteAnswers f bytes ++ [.ok f, .ok b] := by
  induction bytes with
  | nil => rfl
  | cons x bytes ih => exact congrArg (_ :: _ :: ·) ih

theorem byteReads_append (p : RadioProfile) (f b : Byte) (bytes : List Byte) :
    byteReads p f (bytes ++ [b]) = .read p.aFifo (.ok b) :: .read p.aIrqFlags2 (.ok f) :: byteReads p f bytes := by
  induction bytes with
  | nil => rfl
  | cons x bytes ih => exact congrArg (· ++ _) ih

section

variable {i : Instr} {s : State} {w : Word} {q : Sequencer} {d : Nat} {txns : List Txn} {rest : List RadioAnswer}
  {f : Byte}

/-- The loop over bytes that are not the sentinel: two steps for each, which store it at the count (R187). -/
theorem execN_receive_bytes (hi : i = .recv ∨ i = .sendrecv) (bytes : List Byte) (he : s.errLatched = false)
    (hf : flagSet f s.params.profile.mFifoEmpty = false) (hb : ∀ b ∈ bytes, b ≠ 0)
    (hfit : q.count + bytes.length ≤ s.params.rxbufSize) :
    ∃ d', execN i (2 * bytes.length) (s.ranTo w (.recv .poll) q d txns (byteAnswers f bytes ++ rest))
      = .next ((s.storeBytes q.count bytes).ranTo w (.recv .poll) { q with count := q.count + bytes.length } d'
        (byteReads s.params.profile f bytes ++ txns) rest) := by
  induction bytes generalizing s q d txns with
  | nil => exact ⟨d, rfl⟩
  | cons b bytes ih =>
    rw [List.length_cons] at hfit
    have hn : q.count ≠ s.params.rxbufSize := by omega
    obtain ⟨d', hrun⟩ := ih (s := s.writeRx q.count b) (q := { q with count := q.count + 1 }) (d := d + 2)
      (txns := .read s.params.profile.aFifo (.ok b) :: .read s.params.profile.aIrqFlags2 (.ok f) :: txns) he hf
      (fun x hx => hb x (List.mem_cons_of_mem b hx)) (by rw [writeRx_params]; change q.count + 1 + _ ≤ _; omega)
    refine ⟨d', ?_⟩
    rw [List.length_cons, Nat.mul_succ, byteAnswers, List.cons_append, List.cons_append,
      execN_succ (exec_poll_byte_ranTo hi he hf), execN_succ (exec_store_ranTo hi he (hb b List.mem_cons_self) hn), hrun]
    simp only [State.storeBytes, byteReads, List.append_assoc, writeRx_params, Nat.add_comm 1, Nat.add_assoc]
    rfl

/-! ### The sentinel (R188) -/

/-- What is delivered of a packet whose last byte is known. -/
theorem delivered_concat (bytes : List Byte) (b : Byte) :
    delivered (bytes ++ [b]) = if isGlitch b then bytes else bytes ++ [b] := by
  simp only [delivered, List.getLast?_concat, List.dropLast_concat]

theorem length_delivered_le (bytes : List Byte) : (delivered bytes).length ≤ bytes.length := by
  obtain rfl | ⟨init, b, rfl⟩ := List.eq_nil_or_concat' bytes
  · exact Nat.le_refl 0
  · rw [delivered_concat]
    split
    · simp
    · exact Nat.le_refl _

/-- With the packet in RXBUF, one byte of it is not delivered exactly when the last byte stored is a glitch byte. -/
theorem length_delivered {t : State} {bytes : List Byte} (hcount : t.seq.count = bytes.length)
    (hread : ∀ k, (hk : k < bytes.length) → memRead t.rxbuf k = bytes[k]) :
    (GlitchAtEnd t ∧ (delivered bytes).length + 1 = bytes.length)
      ∨ (¬GlitchAtEnd t ∧ (delivered bytes).length = bytes.length) := by
  obtain rfl | ⟨init, b, rfl⟩ := List.eq_nil_or_concat' bytes
  · exact .inr ⟨fun ⟨h, _⟩ => absurd hcount h.ne', rfl⟩
  · rw [List.length_append, List.length_singleton] at hcount
    have hlast : memRead t.rxbuf (t.seq.count - 1) = b := by
      rw [hcount, Nat.add_sub_cancel, hread init.length (by simp)]
      exact List.getElem_concat_length rfl _
    rw [delivered_concat]
    by_cases hg : isGlitch b = true
    · rw [if_pos hg, List.length_append, List.length_singleton]
      exact .inl ⟨⟨hcount ▸ Nat.succ_pos _, hlast ▸ (isGlitch_iff b).mp hg⟩, rfl⟩
    · rw [if_neg hg]
      exact .inr ⟨fun ⟨_, h⟩ => hg ((isGlitch_iff b).mpr (hlast ▸ h)), rfl⟩

/-- What the sentinel leaves of a packet in RXBUF. -/
theorem sentinel_packet {t : State} {bytes : List Byte} (hcount : t.seq.count = bytes.length)
    (hread : ∀ k, (hk : k < bytes.length) → memRead t.rxbuf k = bytes[k]) (hg : t.seq.glitch = false) :
    t.sentinel =
      { t with
        glitchCnt := if (delivered bytes).length < bytes.length then t.glitchCnt + 1 else t.glitchCnt
        seq := { t.seq with
          count := (delivered bytes).length
          glitch := decide ((delivered bytes).length < bytes.length)
          outcome := .packet } } := by
  obtain ⟨hglitch, hlen⟩ | ⟨hglitch, hlen⟩ := length_delivered hcount hread
  · have hlt : (delivered bytes).length < bytes.length := hlen ▸ Nat.lt_succ_self _
    have hcount' : (delivered bytes).length = t.seq.count - 1 := by omega
    rw [sentinel_of_glitch hglitch, if_pos hlt, decide_eq_true hlt, hcount']
    rfl
  · rw [sentinel_of_not_glitch hglitch, hlen, if_neg (Nat.lt_irrefl _), decide_eq_false (Nat.lt_irrefl _), ← hcount, ← hg]
    rfl

/-- The poll and the read of the sentinel, with the packet in RXBUF. -/
theorem execN_sentinel (hi : i = .recv ∨ i = .sendrecv) (he : s.errLatched = false)
    (hf : flagSet f s.params.profile.mFifoEmpty = false) {bytes : List Byte} (hcount : q.count = bytes.length)
    (hread : ∀ k, (hk : k < bytes.length) → memRead s.rxbuf k = bytes[k]) (hg : q.glitch = false) :
    execN i 2 (s.ranTo w (.recv .poll) q d txns (.ok f :: .ok 0 :: rest)) = .next
      (State.ranTo
        { s with glitchCnt := if (delivered bytes).length < bytes.length then s.glitchCnt + 1 else s.glitchCnt }
        w (.mode .recvSettle .enter)
        { q with
          count := (delivered bytes).length
          glitch := decide ((delivered bytes).length < bytes.length)
          outcome := .packet } (d + 2)
        (.read s.params.profile.aFifo (.ok 0) :: .read s.params.profile.aIrqFlags2 (.ok f) :: txns) rest) := by
  have hend := sentinel_packet (t := s.ranTo w (.recv .byte) q (d + 2)
    (.read s.params.profile.aFifo (.ok 0) :: .read s.params.profile.aIrqFlags2 (.ok f) :: txns) rest) hcount hread hg
  rw [execN_succ (exec_poll_byte_ranTo hi he hf), execN_succ (exec_sentinel_ranTo hi he), hend]
  rfl

/-- The byte loop over a packet and the sentinel. -/
theorem execN_packet (hi : i = .recv ∨ i = .sendrecv) {bytes : List Byte} (he : s.errLatched = false)
    (hf : flagSet f s.params.profile.mFifoEmpty = false) (hb : ∀ b ∈ bytes, b ≠ 0) (hq : q.count = 0)
    (hg : q.glitch = false) (hfit : bytes.length ≤ s.params.rxbufSize) (hwf : Memory.wf s.rxbuf = true) :
    ∃ d' m, execN i (2 * bytes.length + 2) (s.ranTo w (.recv .poll) q d txns (byteAnswers f (bytes ++ [0]) ++ rest))
        = .next (State.ranTo
          { s with
            rxbuf := m
            glitchCnt := if (delivered bytes).length < bytes.length then s.glitchCnt + 1 else s.glitchCnt }
          w (.mode .recvSettle .enter)
          { q with
            count := (delivered bytes).length
            glitch := decide ((delivered bytes).length < bytes.length)
            outcome := .packet } d' (byteReads s.params.profile f (bytes ++ [0]) ++ txns) rest)
      ∧ (∀ k, (hk : k < bytes.length) → memRead m k = bytes[k])
      ∧ (∀ k, bytes.length ≤ k → memRead m k = memRead s.rxbuf k) := by
  have hread := fun k (hk : k < bytes.length) => memRead_storeBytes (n := 0) hwf hk
  have hkept := fun k (hk : 0 + bytes.length ≤ k) => memRead_storeBytes_outside (n := 0) (bytes := bytes) hwf (.inr hk)
  simp only [Nat.zero_add] at hread hkept
  obtain ⟨d', hloop⟩ := execN_receive_bytes (w := w) (q := q) (d := d) (txns := txns)
    (rest := .ok f :: .ok 0 :: rest) hi bytes he hf hb (by rwa [hq, Nat.zero_add])
  rw [hq, Nat.zero_add, storeBytes_eq] at hloop
  refine ⟨d' + 2, _, ?_, hread, hkept⟩
  rw [byteAnswers_append, byteReads_append, List.append_assoc]
  exact (execN_append 2 hloop).trans <|
    execN_sentinel (s := { s with rxbuf := (s.storeBytes 0 bytes).rxbuf }) hi he hf rfl hread hg

end

/-- Settles O35: the set-up, two steps for each byte, the sentinel's two, and the exit path. -/
theorem receiveDeliversPacket : Obligations.ReceiveDeliversPacket := by
  intro s bytes f b1 v1 b2 raw v2 b3 rest hp he hwf hlen hsize hb hf ha hm1 hm2
  obtain ⟨w, hw⟩ := pos_eq_some.mp hp
  rw [← idleMode_eq] at hm2
  have hi : Instr.recv = .recv ∨ Instr.recv = .sendrecv := .inl rfl
  have hset := execN_receive_setup (n := 2 * bytes.length + 5) hi he (exec_recv_start rfl) hm1 (w := w) (p := .start)
    (q := s.seq) (d := 0) (txns := []) (b1 := b1) (b2 := b2) (raw := raw)
    (rest := byteAnswers f (bytes ++ [0]) ++ .ok v2 :: .ok b3 :: rest)
  rw [← eq_ranTo hw ha] at hset
  obtain ⟨d, m, hloop, hread, hkept⟩ := execN_packet (w := w)
    (q := Sequencer.receiving { s.seq with opmode := v1 } raw s.timeoutNat) (d := 4)
    (txns := [.read s.params.profile.aRssiValue (.ok raw), .await s.timeoutNat (.ok b2),
      .read s.params.profile.aOpmode (.ok v1), .write s.params.profile.aPayloadLength 0 (.ok b1)])
    (rest := .ok v2 :: .ok b3 :: rest) hi he hf hb rfl rfl hlen hwf
  refine ⟨_, hset.trans ((execN_append 3 hloop).trans (execN_receive_exit (s := State.mk ..) hi he hm2)), ⟨rfl, rfl⟩,
    completed_completeDevice _, (err_slot_none he).symm, rfl, rfl, keepsHostSide_commit .., hread, hkept, rfl,
    commitReceive_rxlen_packet rfl ?_, rfl, rfl, rfl, rfl, rfl, rfl⟩
  exact (length_delivered_le bytes).trans_lt (by omega)

end Sys2Proof.Machine
end

section
/-! PROOFS. The numeric encoder (40_numeric_encoder.md, R116 to R121, R126, R127): the bandwidth byte, and the
round-trip laws of the three conversions. -/

namespace Sys2Proof.Machine

open Sys2Proof.Config

/-! ### Frequency (R111, R112, R119) -/

/-- Decoding loses less than 2^19 of `k * FOSC`, and encoding rounds that away, `FOSC` being more than 2^20. -/
theorem freqWord_freqDec (k : Nat) : freqWord (freqDec k) = k := by
  simp only [freqWord, roundDiv, freqDec, fosc]
  omega

theorem freqEncRaw_freqDec {k : Nat} (hk : k < 2 ^ 24) : freqEncRaw (freqDec k) = k := by
  rw [freqEncRaw, freqWord_freqDec, Nat.mod_eq_of_lt hk]

/-- Settles O16: the second law follows from the first, the word being the encoding itself. -/
theorem frequencyRoundTrip : Obligations.FrequencyRoundTrip := by
  refine ⟨fun k => freqEncRaw_freqDec, fun hz => ⟨fun h => ⟨freqEncRaw hz, freqEncRaw_lt hz, h.symm⟩, ?_⟩⟩
  rintro ⟨k, hk, rfl⟩
  rw [freqEncRaw_freqDec hk]

/-! ### Bit rate (R114, R115, R119) -/

/-- Up to the square root of FOSC a divider is no greater than its rate. -/
theorem le_brDec {k : Nat} (hk : 1 ≤ k) (hk' : k ≤ 5656) : k ≤ brDec k := by
  rw [brDec, bitrateDivider, Nat.le_div_iff_mul_le hk]
  calc k * k ≤ 5656 * 5656 := Nat.mul_le_mul hk' hk'
    _ ≤ fosc := by decide
    _ ≤ fosc + k / 2 := Nat.le_add_right ..

/-- A divider no greater than its rate is the nearest integer to FOSC over the rate. -/
theorem bitrateDivider_brDec {k : Nat} (hk : 1 ≤ k) (hle : k ≤ brDec k) : bitrateDivider (brDec k) = k := by
  have hlow : brDec k * k ≤ fosc + k / 2 := Nat.div_mul_le_self ..
  have hhigh : fosc + k / 2 < brDec k * k + k := Nat.lt_div_mul_add hk
  rw [Nat.mul_comm] at hlow hhigh
  refine Nat.div_eq_of_lt_le ?_ ?_
  · omega
  · rw [Nat.succ_mul]
    omega

theorem brEncRaw_brDec {k : Nat} (hk : 1 ≤ k) (hk' : k ≤ 5723) : brEncRaw (brDec k) = k := by
  obtain hlt | hle := Nat.lt_or_ge 5656 k
  · have hlast : ∀ j < 67, brEncRaw (brDec (5657 + j)) = 5657 + j := by decide
    obtain ⟨j, rfl⟩ := Nat.exists_eq_add_of_le (Nat.succ_le_of_lt hlt)
    exact hlast j (by omega)
  · rw [brEncRaw, bitrateDivider_brDec hk (le_brDec hk hle), Nat.mod_eq_of_lt (by omega)]

/-- Settles O17: below the square root of FOSC by the rounding, above it up to 5723 one by one. -/
theorem bitrateRoundTrip : Obligations.BitrateRoundTrip :=
  ⟨fun _ => brEncRaw_brDec, by decide, by decide⟩

/-! ### Bandwidth (R116 to R121) -/

/-- The fields of the byte of a setting (R120). -/
theorem toNat_bwEncByte {b : Bandwidth} (h : b ∈ achievable) :
    (bwEncByte b).toNat = mantissaCode b.mantissa * 8 + b.exponent := by
  have hall : ∀ x ∈ achievable, (bwEncByte x).toNat = mantissaCode x.mantissa * 8 + x.exponent := by decide
  exact hall b h

theorem bwDec_bwEncByte {b : Bandwidth} (h : b ∈ achievable) : bwDec (bwEncByte b) = some (bwHz b) := by
  have hall : ∀ x ∈ achievable, bwDec (bwEncByte x) = some (bwHz x) := by decide
  exact hall b h

/-- An achievable bandwidth is its own nearest (R117). -/
theorem bwSelect_bwHz {b : Bandwidth} (h : b ∈ achievable) : bwSelect (bwHz b) = b := by
  have hall : ∀ x ∈ achievable, bwSelect (bwHz x) = x := by decide
  exact hall b h

/-- Every canonical byte is the byte of an achievable setting. -/
theorem exists_achievable_of_canonical {b : Byte} (hlt : b.toNat < 32) (hm : b.toNat / 8 ≠ 3) (he : 1 ≤ b.toNat % 8) :
    ∃ a ∈ achievable, bwEncByte a = b := by
  have hall : ∀ n < 32, n / 8 ≠ 3 → 1 ≤ n % 8 → ∃ a ∈ achievable, bwEncByte a = BitVec.ofNat 8 n := by decide
  obtain ⟨a, ha, hab⟩ := hall b.toNat hlt hm he
  exact ⟨a, ha, hab.trans (BitVec.ofNat_toNat ..)⟩

/-- Settles O18: both laws by the settings of the achievable set. -/
theorem bandwidthRoundTrip : Obligations.BandwidthRoundTrip := by
  refine ⟨fun b hlt hm he => ?_, fun hz => ⟨fun h => ?_, ?_⟩⟩
  · obtain ⟨a, ha, rfl⟩ := exists_achievable_of_canonical hlt hm he
    exact ⟨bwHz a, bwDec_bwEncByte ha, by rw [bwSelect_bwHz ha]⟩
  · rw [bwDec_bwEncByte (bwSelect_mem_achievable hz)] at h
    exact ⟨bwSelect hz, bwSelect_mem_achievable hz, Option.some.inj h⟩
  · rintro ⟨a, ha, rfl⟩
    rw [bwSelect_bwHz ha, bwDec_bwEncByte ha]

/-- Settles O14: the byte of an achievable setting fits RES, and its fields are the setting's. -/
theorem bwEncResult : Obligations.BwEncResult := by
  intro s
  have hmem := bwSelect_mem_achievable s.argNat
  have hres := (encodeResult_res ((bwEncByte_lt hmem).trans (by decide)) false s).trans (toNat_bwEncByte hmem)
  have hcode : ∀ m c, mantissaCode m = c → (bwSelect s.argNat).mantissa = m →
      (encodeResult (bwEncByte (bwSelect s.argNat)).toNat false s).enc.res.toNat
        = c * 8 + (bwSelect s.argNat).exponent := by
    rintro m c rfl rfl
    exact hres
  refine ⟨by decide, _, _, rfl, rfl, hmem, fun hm => (hcode 16 0 rfl hm).trans (Nat.zero_add _), hcode 20 1 rfl,
    hcode 24 2 rfl, encodeResult_range ..,
    completed_encodeResult .., pureFrame_encodeResult ..⟩

/-! ### BW_DEC (R121, R127) -/

theorem toNat_argBandwidthByte (s : State) : s.argBandwidthByte.toNat = s.operands.arg.toNat % 256 :=
  BitVec.extractLsb'_toNat ..

theorem toNat_mantField (b : Byte) : (mantField b).toNat = b.toNat / 8 % 4 := by
  rw [mantField, BitVec.extractLsb'_toNat, Nat.shiftRight_eq_div_pow]

theorem toNat_expField (b : Byte) : (expField b).toNat = b.toNat % 8 := by
  rw [expField, BitVec.extractLsb'_toNat, Nat.shiftRight_zero]

theorem bwDec_eq_none {b : Byte} (h : b.toNat / 8 % 4 = 3) : bwDec b = none :=
  if_pos (BitVec.eq_of_toNat_eq (y := 3) ((toNat_mantField b).trans h))

theorem bwDec_eq_some {b : Byte} (h : b.toNat / 8 % 4 ≠ 3) :
    bwDec b = some (fosc / ((16 + 4 * (b.toNat / 8 % 4)) * 2 ^ (b.toNat % 8 + 2))) := by
  have hm : mantField b ≠ 3 := fun hm => h ((toNat_mantField b).symm.trans (congrArg BitVec.toNat hm))
  rw [bwDec, if_neg hm, bwHz, toNat_mantField, toNat_expField]

/-- Settles O15: the two fields of the byte read off ARG, with the reserved mantissa and without it. -/
theorem bwDecResult : Obligations.BwDecResult := by
  intro s
  have hbyte := toNat_argBandwidthByte s
  have hm : s.operands.arg.toNat / 8 % 4 = s.argBandwidthByte.toNat / 8 % 4 := by omega
  have he : s.operands.arg.toNat % 8 = s.argBandwidthByte.toNat % 8 := by omega
  rw [hm, he, ← hbyte]
  refine ⟨by decide, _, rfl, fun h3 => ?_, fun h3 => ?_⟩
  · rw [bwDec_eq_none h3, BitVec.ofNat_toNat]
    exact raisedFatal_raiseFatal ..
  · have hle := Nat.div_le_self fosc
      ((16 + 4 * (s.argBandwidthByte.toNat / 8 % 4)) * 2 ^ (s.argBandwidthByte.toNat % 8 + 2))
    have hres := encodeResult_res (hle.trans_lt (by decide)) false s
    rw [bwDec_eq_some h3]
    exact ⟨hres, encodeResult_range .., completed_encodeResult .., pureFrame_encodeResult ..⟩

end Sys2Proof.Machine
end
